-- ==== Sys2Proof/Word.lean ====
section
/-! DEFINITION. The fixed-width words of the NJ-2416: bytes, bus addresses, window locations and
the ten-flag sets of the Event Unit. -/

namespace Sys2Proof

/-- A byte: a window value, a bus data byte, an image byte. -/
abbrev Byte := BitVec 8

/-- A 7-bit bus address, or a 7-bit mask of one (1.5, "Bus addresses"). -/
abbrev BusAddress := BitVec 7

/-- One of the 32 window locations, the value on A4 to A0 (R169). -/
abbrev Location := BitVec 5

/-- Ten flags, one for each event kind, numbered 0 to 9 (9.1). -/
abbrev KindSet := BitVec 10

end Sys2Proof
end

