-- ==== Sys2Proof/Syntax.lean ====
section
/-! DEFINITION. The commands: one constructor for each row of spec/opcode_table.json.

A row is a step of the part, taken whole. Its operands are what comes from outside the part in that
step: which segment's lines the step is on, the level a master leaves SDA at, the value the host
writes. What the part already holds is no operand: the bits of a received byte were sampled by the
SCL edges before its completion (R45, R46), and the parameters of a table, image, queue or segment
command were latched when it was issued (R136). -/

namespace Sys2Proof

/-- One of the two bus segments. -/
inductive Seg where
  | A
  | B
  deriving DecidableEq, Repr

/-- An edge of SCL. A rising edge carries the level at which the other parties on the segment leave
SDA: `true` for released (high), `false` for pulled low. -/
inductive ClockEdge where
  | rise (sda : Bool)
  | fall
  deriving DecidableEq, Repr

/-- Which location of a pair of flag locations is written: the first shows kinds 0 to 7, the second
kinds 8 and 9 (R157, R160). -/
inductive FlagHalf where
  | first
  | second
  deriving DecidableEq, Repr

/-- The commands of the part, in the order of spec/opcode_table.json. -/
inductive Instr where
  /-- START (R45): SDA falls on the segment. -/
  | start (g : Seg)
  /-- STOP (R60): SDA rises on the segment. -/
  | stop (g : Seg)
  /-- ADDRESS_BYTE (R52): SCL falls after the eighth bit of an address byte. -/
  | addressByte (g : Seg)
  /-- SUB_ADDRESS_BYTE (R54): SCL falls after the eighth bit of a sub-address byte. -/
  | subAddressByte (g : Seg)
  /-- WRITE_DATA_BYTE (R55): SCL falls after the eighth bit of a write data byte. -/
  | writeDataByte (g : Seg)
  /-- WRITE_ACK_BIT (R55): the ninth rising edge of an acknowledged write data byte. -/
  | writeAckBit (g : Seg) (sda : Bool)
  /-- BYTE_NEED (R57, R110): the falling edge that ends an acknowledge clock before a read byte. -/
  | byteNeed (g : Seg)
  /-- MASTER_ACK_BIT (R58): the ninth rising edge of a transmitted byte; `sda` low is ACK. -/
  | masterAckBit (g : Seg) (sda : Bool)
  /-- TICK (R49): the Time Base delivers a tick. -/
  | tick
  /-- ABANDON_TIMER_EXPIRY (R65): the last tick of its period reaches the abandon timer. -/
  | abandonTimerExpiry (g : Seg)
  /-- STRETCH_EXPIRY (R123): the last tick of its period reaches the stretch timer. -/
  | stretchExpiry (g : Seg)
  /-- COMMAND_ISSUE (R136, R138): the host writes CMD. -/
  | commandIssue (code : Byte)
  /-- DEFINE (R11, R12): the completion check of a held DEFINE. -/
  | define
  /-- ENABLE (R13): the completion check of a held ENABLE. -/
  | enable
  /-- DISABLE (R14 to R18): the completion check of a held DISABLE. -/
  | disable
  /-- RELEASE (R20): the completion check of a held RELEASE. -/
  | release
  /-- VT_QUERY (R21): the completion check of a held VT_QUERY. -/
  | vtQuery
  /-- REGIONS (R35 to R37): the completion check of a held REGIONS. -/
  | regions
  /-- IMAGE_PUT (R39 to R41): the completion check of a held IMAGE_PUT. -/
  | imagePut
  /-- IMAGE_GET (R42): the completion check of a held IMAGE_GET. -/
  | imageGet
  /-- FLUSH (R104): the completion check of a held FLUSH. -/
  | flush
  /-- QUEUE_CONFIG (R98): the completion check of a held QUEUE_CONFIG. -/
  | queueConfig
  /-- SEGMENT (R67, R68): the completion check of a held SEGMENT. -/
  | segment
  /-- CLEAR_COUNTERS (R70): the completion check of a held CLEAR_COUNTERS. -/
  | clearCounters
  /-- SLEEP (R164): the completion check of a held SLEEP. -/
  | sleep
  /-- AWAKE (R165): the completion check of a held AWAKE. -/
  | awake
  /-- REINIT (R154): the completion check of a held REINIT. -/
  | reinit
  /-- UNKNOWN (R143): the completion check of a held code that names no command. -/
  | unknown
  /-- ABORT (R147): the host writes ABORT. -/
  | abort (value : Byte)
  /-- CLEAR_COLLISION (R138): the host writes CMD_STATUS. -/
  | clearCollision (value : Byte)
  /-- PARAMETER_WRITE (R135, R177): the host writes upper location `$10` + `position`. -/
  | parameterWrite (position : Fin 16) (value : Byte)
  /-- PAGE_WRITE (R175): the host writes PAGE. -/
  | pageWrite (value : Byte)
  /-- PENDING_CLEAR (R158): the host writes a PENDING location. -/
  | pendingClear (half : FlagHalf) (value : Byte)
  /-- INT_ENABLE_WRITE (R160): the host writes an INT_ENABLE location. -/
  | intEnableWrite (half : FlagHalf) (value : Byte)
  /-- WAKE_ENABLE_WRITE (R160): the host writes a WAKE_ENABLE location. -/
  | wakeEnableWrite (half : FlagHalf) (value : Byte)
  /-- EMPTY_POP_CLEAR (R103): the host writes QUEUE_DEPTH. -/
  | emptyPopClear (value : Byte)
  /-- POP (R102): the host writes POP. -/
  | pop (value : Byte)
  /-- DATA_PORT_READ (R100): the host reads the location of the data port, `$1A`. -/
  | dataPortRead
  /-- DATA_INDEX_WRITE (R100): the host writes the location of the data index, `$1B`. -/
  | dataIndexWrite (value : Byte)
  /-- ANSWER_SEQ_WRITE (R115): the host writes ANSWER_SEQ. -/
  | answerSeqWrite (value : Byte)
  /-- ANSWER_DATA_WRITE (R116): the host writes ANSWER_DATA. -/
  | answerDataWrite (value : Byte)
  /-- COMMIT (R118): the host writes the COMMIT code to ANSWER_CTRL. -/
  | commit
  /-- CLEAR (R117): the host writes the CLEAR code to ANSWER_CTRL. -/
  | clear
  /-- DISREGARDED_WRITE (R172, R181): the host makes a write access that the part disregards, for its
  location or for its strobes. -/
  | disregardedWrite (location : Location) (value : Byte)
  /-- RESET_ASSERT (R183): the board asserts RESET. -/
  | resetAssert
  /-- RESET_RELEASE (R184): the board releases RESET. -/
  | resetRelease
  /-- SCL_EDGE (R45): an edge of SCL that is none of the rows above. -/
  | sclEdge (g : Seg) (edge : ClockEdge)
  deriving DecidableEq, Repr

end Sys2Proof
end

