-- ==== Sys2Proof/Decode.lean ====
section
/-! DEFINITION. The command a word of bits spells. No row of spec/opcode_table.json gives bits (its
"fields" are all empty and no row has "fixed"): a command is not an encoded word here but a step of
the part, so no word spells one. -/

namespace Sys2Proof

/-- The command that the low `nbits` bits of `w` spell by the table: none, for every word, since no
row of the table has an encoding. -/
def decodeTableWord (_nbits _w : Nat) : Option Instr := none

end Sys2Proof
end

