-- ==== Sys2Proof/Config.lean ====
section
/-! DEFINITION. The constants the book fixes for the part. Nothing in the book is left to an
implementation or gives an open value, so this file holds no free value. -/

namespace Sys2Proof.Config

/-- Cells of the Cell Pool (5.2, R75). -/
def cellCount : Nat := 32

/-- Data bytes of one cell (5.2, R80). -/
def cellBytes : Nat := 16

/-- Bytes of image memory (R25). -/
def imageBytes : Nat := 2048

/-- Regions a region list holds at most (R26). -/
def maxRegions : Nat := 4

/-- Bytes the staging list holds at most (R116). -/
def stagingBytes : Nat := 8

/-- The highest value of the data index (R100). -/
def maxDataIndex : Nat := 16

/-- Ticks in one unit of the abandon timeout (R65). -/
def ticksPerAbandonUnit : Nat := 10

/-- The threshold of the Inbound Queue after either reset (R107, R108). -/
def defaultThreshold : Nat := 24

/-- The default stretch timeout of a segment, in ticks (R67). -/
def defaultStretch : Byte := 50

/-- The default abandon timeout of a segment, in units of 10 ticks (R67). -/
def defaultAbandon : Byte := 35

/-- The default quota of a segment, in cells (R67). -/
def defaultQuota : Byte := 16

end Sys2Proof.Config
end

