-- ==== Sys2Proof/Machine/State.lean ====
section
/-! DEFINITION. The state of the part, as plain data, and the state after hardware reset.

Each block of 1.4 has its fields here. A fact the book calls a law of a block is made impossible to
break by the shape of the data where that is simple (a segment is bound exactly in the states that
carry a transaction, R51; a request is outstanding exactly in R_STRETCH, R59, R114; an awaited
segment exists exactly while the engine is WAITING, R134) and is a predicate of Safety.lean
elsewhere. -/

namespace Sys2Proof.Machine

/-- Why the part stops. The book gives every step of opcode_table.json an effect in every state, so
nothing raises a fault and the type is empty. -/
inductive Fault where
  deriving DecidableEq, Repr

/-- Why the model has no answer for a command. -/
inductive Refusal where
  /-- An arm of exec whose command has no meaning yet; no arm of this model raises it. Safe: a run
  stops where the part would go on. -/
  | notModelled (mnemonic : String)
  deriving DecidableEq, Repr

/-! ## The Virtual Target Table (2.2) -/

/-- The life cycle of an entry (2.4). -/
inductive LifeState where
  | free
  | defined
  | active
  | closing
  deriving DecidableEq, Repr

/-- The wrap mode of a target (R33). -/
inductive WrapMode where
  | wrap
  | run
  deriving DecidableEq, Repr

/-- The sleep policy of a target (R129). -/
inductive SleepPolicy where
  | fill
  | wait
  deriving DecidableEq, Repr

/-- The five region classes (3.3). `open_` is OPEN: the plain word is Lean's own. -/
inductive RegionClass where
  | fixed
  | open_
  | posted
  | queued
  | deferred
  deriving DecidableEq, Repr

/-- One region of a region list (3.2): `length` is 1..256. -/
structure Region where
  start : Byte
  length : Nat
  cls : RegionClass
  deriving DecidableEq, Repr

/-- One entry of the Virtual Target Table (2.2). A FREE entry holds no configuration (R5): its
configuration fields are zero. -/
structure Entry where
  life : LifeState
  segment : Seg
  address : BusAddress
  mask : BusAddress
  base : Nat
  length : Nat
  fill : Byte
  wrap : WrapMode
  sleep : SleepPolicy
  pointer : Byte
  generation : Byte
  regions : List Region
  deriving DecidableEq, Repr

/-- A FREE entry with the given generation: every configuration field zero, pointer 0, an empty
region list and no image range (R23, R24, and RELEASE, R20). -/
def Entry.freeWith (generation : Byte) : Entry :=
  { life := .free, segment := .A, address := 0, mask := 0, base := 0, length := 0, fill := 0,
    wrap := .wrap, sleep := .fill, pointer := 0, generation := generation, regions := [] }

/-! ## Records (5.1) -/

/-- The end causes a committed record can carry (R73). -/
inductive CommitCause where
  | stop
  | repeatedStart
  | broken
  deriving DecidableEq, Repr

/-- The ways a transaction ends (4.7). -/
inductive EndCause where
  | commit (cause : CommitCause)
  | abandoned
  deriving DecidableEq, Repr

/-- A record while it is open (R73); its count is the length of `data`. -/
structure OpenRecord where
  segment : Seg
  target : Fin 16
  generation : Byte
  address : BusAddress
  start : Byte
  data : List Byte
  continued : Bool
  cut : Bool
  deriving DecidableEq, Repr

/-- A committed record: an open one with the two fields given at commit (R73). -/
structure QueuedRecord where
  body : OpenRecord
  cause : CommitCause
  number : Byte
  deriving DecidableEq, Repr

/-! ## Segment Controllers -/

/-- The direction of a transaction (R50). -/
inductive Direction where
  | write
  | read
  deriving DecidableEq, Repr

/-- The read-ahead of a read transaction (R120): `bytes` are held for the sub-addresses `next`,
`next + 1`, ... counted without wrap, so `next` may stand at 256 when it is empty. -/
structure ReadAhead where
  next : Nat
  bytes : List Byte
  deriving DecidableEq, Repr

/-- The empty read-ahead. -/
def ReadAhead.empty : ReadAhead := { next := 0, bytes := [] }

/-- What a segment holds while it is bound: the transaction context (R50), the open records of a
write transaction in the order they were opened (R76, R80), whether a data byte was acknowledged
without being recorded since the last record's last byte (condition 3 of R80), and the read-ahead
and expired mode of a read transaction (R109). -/
structure Txn where
  target : Fin 16
  direction : Direction
  address : BusAddress
  position : Byte
  records : List OpenRecord
  unrecorded : Bool
  ahead : ReadAhead
  expired : Bool
  deriving DecidableEq, Repr

/-- A read request (R112) with the remaining ticks of its stretch timer (R122, R179). Its segment
is the one whose state holds it. -/
structure Request where
  sequence : Byte
  target : Fin 16
  sub : Byte
  position : Byte
  remaining : Nat
  deriving DecidableEq, Repr

/-- The ten states of a Segment Controller (4.3). The bound states carry the transaction (R51), and
R_STRETCH carries the outstanding request (R59). -/
inductive SegState where
  | off
  | idle
  | address
  | ignore
  | wSubaddr (t : Txn)
  | wData (t : Txn)
  | wRefusing (t : Txn)
  | rData (t : Txn)
  | rStretch (t : Txn) (r : Request)
  | rDone (t : Txn)
  deriving DecidableEq, Repr

/-- What the byte before an acknowledge clock was, and what was decided about it (R47, R48). -/
inductive AckKind where
  /-- An address byte the part acknowledged (R52). -/
  | address
  /-- A sub-address byte (R54). -/
  | subAddress
  /-- A write data byte the part acknowledged (R55). -/
  | dataAcked
  /-- A write data byte the part refused (R55, R56). -/
  | dataRefused
  /-- A byte the part transmitted (R48). -/
  | transmitted
  deriving DecidableEq, Repr

/-- Where a segment stands in a byte (R46): in its eight bits, with the number of rising edges
taken, or in its acknowledge clock, with whether the ninth rising edge has been taken. -/
inductive ByteClock where
  | bits (taken : Nat)
  | ack (kind : AckKind) (ninth : Bool)
  deriving DecidableEq, Repr

/-- The configuration of a segment besides its power, which is OFF exactly in the state OFF (R67). -/
structure SegConfig where
  stretch : Byte
  abandon : Byte
  quota : Byte
  deriving DecidableEq, Repr

/-- The default configuration (R67). -/
def SegConfig.default : SegConfig :=
  { stretch := Config.defaultStretch, abandon := Config.defaultAbandon,
    quota := Config.defaultQuota }

/-- The five counters of a segment (R69). -/
structure Counters where
  abandoned : Byte
  broken : Byte
  expired : Byte
  refusedBytes : Byte
  filledAsleep : Byte
  deriving DecidableEq, Repr

/-- All five counters at 0. -/
def Counters.zero : Counters :=
  { abandoned := 0, broken := 0, expired := 0, refusedBytes := 0, filledAsleep := 0 }

/-- One Segment Controller with the Deferred Read Unit's per-segment expiry memory (R109): its state,
its place in the current byte, the received bits, the byte being transmitted, the part's own
open-drain drives, the remaining ticks of the abandon timer (`none` while it is stopped), the
configuration and the counters. -/
structure Segment where
  state : SegState
  clock : ByteClock
  shift : Byte
  sending : Byte
  sdaLow : Bool
  sclLow : Bool
  abandonTimer : Option Nat
  config : SegConfig
  counters : Counters
  expiryMemory : Option Byte
  deriving DecidableEq, Repr

/-- A segment after either reset (R71, R72, R132). -/
def Segment.reset : Segment :=
  { state := .off, clock := .bits 0, shift := 0, sending := 0, sdaLow := false, sclLow := false,
    abandonTimer := none, config := SegConfig.default, counters := Counters.zero,
    expiryMemory := none }

/-- The lines of one segment as the board shows them: the level of SCL, and the level at which the
parties other than the part leave SDA (`true` is high). SDA itself is high when they leave it high
and the part does not pull it low (4.1). -/
structure Lines where
  scl : Bool
  sda : Bool
  deriving DecidableEq, Repr

/-- Both lines pulled up by the board and nobody pulling them low. -/
def Lines.released : Lines := { scl := true, sda := true }

/-! ## Cell Pool, Inbound Queue, Deferred Read Unit -/

/-- The Cell Pool's counts (R75, R76): the free cells and the cells each segment holds reserved. The
queued cells are the records of the Inbound Queue. -/
structure Pool where
  free : Nat
  reservedA : Nat
  reservedB : Nat
  deriving DecidableEq, Repr

/-- The pool with every cell free (R92). -/
def Pool.reset : Pool := { free := Config.cellCount, reservedA := 0, reservedB := 0 }

/-- The Inbound Queue (6.1): its records from head to tail, the record counter (R95), the threshold
(R98) and the sticky EMPTY_POP flag (R103). -/
structure InboundQueue where
  records : List QueuedRecord
  counter : Byte
  threshold : Nat
  emptyPop : Bool
  deriving DecidableEq, Repr

/-- The queue after either reset (R107, R108). -/
def InboundQueue.reset : InboundQueue :=
  { records := [], counter := 0, threshold := Config.defaultThreshold, emptyPop := false }

/-- The outcomes of a commit to the answer port (R118). -/
inductive AnswerOutcome where
  | noRequest
  | accepted
  | late
  | empty
  | overlong
  deriving DecidableEq, Repr

/-- The items the Deferred Read Unit keeps once for the device (R109). -/
structure ReadUnit where
  sequenceCounter : Byte
  answerSeq : Byte
  staging : List Byte
  overlong : Bool
  lastOutcome : AnswerOutcome
  deriving DecidableEq, Repr

/-- The Deferred Read Unit's device-wide items after either reset (R132, R133). -/
def ReadUnit.reset : ReadUnit :=
  { sequenceCounter := 0, answerSeq := 0, staging := [], overlong := false,
    lastOutcome := .noRequest }

/-! ## The Command Engine (8.1) -/

/-- What a WAITING command applies at the end of its transaction (R145). -/
inductive Held where
  | disable (target : Fin 16)
  | regions (target : Fin 16) (list : List Region)
  | imagePut (target : Fin 16) (offset : Byte) (bytes : List Byte)
  | segment (config : SegConfig)
  deriving DecidableEq, Repr

/-- The engine state; WAITING carries the awaited segment and the held values (R134). -/
inductive EngineState where
  | idle
  | running
  | waiting (awaited : Seg) (held : Held)
  deriving DecidableEq, Repr

/-- The result codes (R142). -/
inductive ResultCode where
  | ok
  | badIndex
  | badState
  | badParam
  | conflict
  | overlap
  | aborted
  | unknown
  deriving DecidableEq, Repr

/-- Sixteen parameter bytes: the parameter area, or the latched copy of it (R134, R135). -/
abbrev Params := Vector Byte 16

/-- Sixteen parameter bytes, each zero. -/
def Params.zero : Params := Vector.replicate 16 0

/-- The Command Engine (R134), with the parameter area it owns (R135, R176). -/
structure Engine where
  state : EngineState
  code : Byte
  latched : Params
  params : Params
  result : ResultCode
  collision : Bool
  deriving DecidableEq, Repr

/-- The engine after hardware reset (R153). -/
def Engine.reset : Engine :=
  { state := .idle, code := 0, latched := Params.zero, params := Params.zero, result := .ok,
    collision := false }

/-! ## The Event Unit (9.1) -/

/-- The ten event kinds. -/
inductive EventKind where
  | commandDone
  | queueArrival
  | queueLevel
  | poolRefusal
  | requestA
  | requestB
  | stretchExpired
  | deferredFilled
  | transactionAbandoned
  | framingBreak
  deriving DecidableEq, Repr

/-- The host state (R163). -/
inductive HostState where
  | awake
  | asleep
  deriving DecidableEq, Repr

/-- The Event Unit: the pending set, the two enable sets, the host state and the levels of its two
outputs (INT pulled low, WAKE driven high). -/
structure Events where
  pending : KindSet
  intEnable : KindSet
  wakeEnable : KindSet
  host : HostState
  intLow : Bool
  wakeHigh : Bool
  deriving DecidableEq, Repr

/-- The Event Unit after hardware reset (R167). -/
def Events.reset : Events :=
  { pending := 0, intEnable := 0, wakeEnable := 0, host := .awake, intLow := false,
    wakeHigh := false }

/-! ## The Host Window (10.1) -/

/-- The window's own state: PAGE (R175), the data index of the head view (R100), and what the part
drives on D7 to D0: the value of the read access under way, and `none` while there is none, when the
part leaves them undriven (R169, R170). -/
structure Window where
  page : Fin 4
  dataIndex : Nat
  dataOut : Option Byte
  deriving DecidableEq, Repr

/-- The window after hardware reset, with D7 to D0 undriven (R183, R184). -/
def Window.reset : Window := { page := 0, dataIndex := 0, dataOut := none }

/-! ## The whole part -/

/-- The state of the part and the queue of commands waiting to be taken. -/
structure State where
  /-- Whether RESET is asserted (R183). -/
  inReset : Bool
  linesA : Lines
  linesB : Lines
  segA : Segment
  segB : Segment
  vtt : Vector Entry 16
  image : List Host.Cell
  pool : Pool
  queue : InboundQueue
  dru : ReadUnit
  engine : Engine
  events : Events
  window : Window
  /-- The commands that wait, first in, first out: the model's own field, not the book's. -/
  pending : List Instr
  deriving DecidableEq, Repr

/-- The part right after hardware reset, RESET released (R184): every block in its hardware-reset
state, nothing on the buses and no command waiting. -/
def State.reset : State :=
  { inReset := false
    linesA := Lines.released
    linesB := Lines.released
    segA := Segment.reset
    segB := Segment.reset
    vtt := Vector.replicate 16 (Entry.freeWith 0)
    image := []
    pool := Pool.reset
    queue := InboundQueue.reset
    dru := ReadUnit.reset
    engine := Engine.reset
    events := Events.reset
    window := Window.reset
    pending := [] }

end Sys2Proof.Machine
end

