-- ==== Sys2Proof/Machine/Flags.lean ====
section
/-! DEFINITION. The flags: the Event Unit's pending and enable sets with INT and WAKE (9.1 to 9.3),
the saturating counters (R69) and the status bytes of the window (10.7). -/

namespace Sys2Proof.Machine

/-- The number of an event kind (9.1). -/
def EventKind.number : EventKind → Nat
  | .commandDone => 0
  | .queueArrival => 1
  | .queueLevel => 2
  | .poolRefusal => 3
  | .requestA => 4
  | .requestB => 5
  | .stretchExpired => 6
  | .deferredFilled => 7
  | .transactionAbandoned => 8
  | .framingBreak => 9

/-- The set that holds one kind alone. -/
def EventKind.flag (k : EventKind) : KindSet := BitVec.twoPow 10 k.number

/-- INT's condition: some pending kind is interrupt-enabled (R161). -/
def Events.intCondition (e : Events) : Bool := e.pending &&& e.intEnable != 0

/-- WAKE's condition: the host state is ASLEEP and some pending kind is wake-enabled (R162). -/
def Events.wakeCondition (e : Events) : Bool :=
  e.host == .asleep && e.pending &&& e.wakeEnable != 0

/-- INT and WAKE take the levels their conditions give (R161, R162). -/
def Events.judge (e : Events) : Events :=
  { e with intLow := e.intCondition, wakeHigh := e.wakeCondition }

/-- A posting of one kind (R156). -/
def Events.post (k : EventKind) (e : Events) : Events :=
  { e with pending := e.pending ||| k.flag }.judge

/-- The flags of a ten-flag set that a location of a pair shows (R157): kinds 0 to 7 at the first
location, kinds 8 and 9 at the second, whose other positions read 0. -/
def halfOf (set : KindSet) : FlagHalf → Byte
  | .first => set.setWidth 8
  | .second => (set >>> 8).setWidth 8

/-- The flags of a set that a written value names at one location of a pair. -/
def flagsAt (half : FlagHalf) (value : Byte) : KindSet :=
  match half with
  | .first => value.setWidth 10
  | .second => (value.setWidth 10) <<< 8

/-- All the flags of one location of a pair. -/
def halfMask (half : FlagHalf) : KindSet := flagsAt half 0xFF

/-- A host write to a PENDING location: each flag written with 1 becomes clear (R158).
DESIGN CHOICE: a clear of a wake-enabled COMMAND_DONE that meets a SLEEP leaves WAKE low after the SLEEP and
high before it, by R158, R159 and R162, though R166 says that both orders leave one level
(notes/assumptions/24.md). -/
def Events.clearPending (half : FlagHalf) (value : Byte) (e : Events) : Events :=
  { e with pending := e.pending &&& ~~~(flagsAt half value) }.judge

/-- A set after a host write to one location of an enable pair: the location's flags take the
written values and the other location's flags keep theirs (R160). -/
def writeEnables (half : FlagHalf) (value : Byte) (set : KindSet) : KindSet :=
  (set &&& ~~~(halfMask half)) ||| flagsAt half value

/-- A host write to an INT_ENABLE location (R160). -/
def Events.writeIntEnable (half : FlagHalf) (value : Byte) (e : Events) : Events :=
  { e with intEnable := writeEnables half value e.intEnable }.judge

/-- A host write to a WAKE_ENABLE location (R160). -/
def Events.writeWakeEnable (half : FlagHalf) (value : Byte) (e : Events) : Events :=
  { e with wakeEnable := writeEnables half value e.wakeEnable }.judge

/-- A change of the host state (R163). -/
def Events.setHost (h : HostState) (e : Events) : Events := { e with host := h }.judge

/-- The part of the REINIT state that step 2 of R154 gives the Event Unit (R168). -/
def Events.reinitEnables (e : Events) : Events :=
  { e with intEnable := 0, wakeEnable := 0, host := .awake }.judge

/-- The clear of the whole pending set, step 3 of R154. -/
def Events.clearAll (e : Events) : Events := { e with pending := 0 }.judge

/-! ## Counters -/

/-- One more, staying at 255 (R69; the position of a read transaction, R57). -/
def saturatingInc (b : Byte) : Byte := if b = 255 then 255 else b + 1

/-- ABANDONED rises (R63). -/
def Counters.countAbandoned (c : Counters) : Counters :=
  { c with abandoned := saturatingInc c.abandoned }

/-- BROKEN rises (R62). -/
def Counters.countBroken (c : Counters) : Counters :=
  { c with broken := saturatingInc c.broken }

/-- EXPIRED rises (R123). -/
def Counters.countExpired (c : Counters) : Counters :=
  { c with expired := saturatingInc c.expired }

/-- REFUSED_BYTES rises (R55, R56). -/
def Counters.countRefused (c : Counters) : Counters :=
  { c with refusedBytes := saturatingInc c.refusedBytes }

/-- FILLED_ASLEEP rises (R129). -/
def Counters.countFilled (c : Counters) : Counters :=
  { c with filledAsleep := saturatingInc c.filledAsleep }

/-! ## Codes and status bytes -/

/-- The code of a result (R142). -/
def ResultCode.byte : ResultCode → Byte
  | .ok => 0x00
  | .badIndex => 0x01
  | .badState => 0x02
  | .badParam => 0x03
  | .conflict => 0x04
  | .overlap => 0x05
  | .aborted => 0x06
  | .unknown => 0x07

/-- BUSY: the engine is RUNNING or WAITING (R137). -/
def EngineState.busy : EngineState → Bool
  | .idle => false
  | .running => true
  | .waiting _ _ => true

/-- WAITING (R137). -/
def EngineState.isWaiting : EngineState → Bool
  | .idle => false
  | .running => false
  | .waiting _ _ => true

/-- One bit as a byte at a bit position. -/
def bitAt (position : Nat) (b : Bool) : Byte := (BitVec.ofBool b).setWidth 8 <<< position

/-- CMD_STATUS as the host reads it (10.7): result code in bits 6 to 4, COLLISION, WAITING, BUSY. -/
def Engine.statusByte (e : Engine) : Byte :=
  (e.result.byte <<< 4) ||| bitAt 2 e.collision ||| bitAt 1 e.state.isWaiting
    ||| bitAt 0 e.state.busy

/-- QUEUE_DEPTH as the host reads it (10.7): EMPTY_POP in bit 7, the depth in bits 5 to 0. -/
def InboundQueue.depthByte (q : InboundQueue) : Byte :=
  bitAt 7 q.emptyPop ||| BitVec.ofNat 8 q.records.length

/-- The staging position of page 2 (10.7): the count in bits 3 to 0 and OVERLONG in bit 7. -/
def ReadUnit.stagingByte (d : ReadUnit) : Byte :=
  bitAt 7 d.overlong ||| BitVec.ofNat 8 d.staging.length

/-- The code ANSWER_CTRL reads for the last outcome (10.7). -/
def AnswerOutcome.byte : AnswerOutcome → Byte
  | .noRequest => 0x00
  | .accepted => 0x01
  | .late => 0x02
  | .empty => 0x03
  | .overlong => 0x04

/-- The code HOST_STATE reads (10.7). -/
def HostState.byte : HostState → Byte
  | .awake => 0x00
  | .asleep => 0x01

/-- The code of a commit cause on page 1 (10.7). -/
def CommitCause.byte : CommitCause → Byte
  | .stop => 0x00
  | .repeatedStart => 0x01
  | .broken => 0x02

/-- The flags byte of a record on page 1 (10.7): CONTINUED in bit 0, CUT in bit 1. -/
def OpenRecord.flagsByte (r : OpenRecord) : Byte := bitAt 0 r.continued ||| bitAt 1 r.cut

end Sys2Proof.Machine
end

