-- ==== Sys2Proof/Machine/Memory.lean ====
section
/-! DEFINITION. Image memory (R25): 2048 bytes, held as the list of the offsets whose byte is not
`$00`, in rising order. An unlisted offset reads `$00`, the value hardware reset gives every byte
(R44). -/

namespace Sys2Proof.Machine

/-- The byte at an offset: the listed one, or `$00`. -/
def Memory.read : List Host.Cell → Nat → Byte
  | [], _ => 0
  | (b, v) :: rest, a => if a = b then v else Memory.read rest a

/-- The list with one byte put in place, whatever the offset. -/
def Memory.insert : List Host.Cell → Nat → Byte → List Host.Cell
  | [], a, v => if v = 0 then [] else [(a, v)]
  | (b, w) :: rest, a, v =>
    if a < b then (if v = 0 then (b, w) :: rest else (a, v) :: (b, w) :: rest)
    else if a = b then (if v = 0 then rest else (a, v) :: rest)
    else (b, w) :: Memory.insert rest a v

/-- A write of one byte. Image memory has no byte at an offset of 2048 or more (R25): such a write
reaches nothing. No state the part can reach makes one (the law of R10). -/
def Memory.write (m : List Host.Cell) (a : Nat) (v : Byte) : List Host.Cell :=
  if a < Config.imageBytes then Memory.insert m a v else m

/-- Writes of consecutive bytes from an offset on. -/
def Memory.writeAll (m : List Host.Cell) (a : Nat) : List Byte → List Host.Cell
  | [] => m
  | v :: rest => Memory.writeAll (Memory.write m a v) (a + 1) rest

/-- `n` consecutive bytes from an offset on. -/
def Memory.readAll (m : List Host.Cell) (a : Nat) : Nat → List Byte
  | 0 => []
  | n + 1 => Memory.read m a :: Memory.readAll m (a + 1) n

/-- The canonical form from an offset on: offsets rise strictly and lie below 2048, and no listed
byte is `$00`. -/
def Memory.wfFrom : Nat → List Host.Cell → Bool
  | _, [] => true
  | lo, (a, v) :: rest =>
    decide (lo ≤ a) && decide (a < Config.imageBytes) && decide (v ≠ 0)
      && Memory.wfFrom (a + 1) rest

/-- The canonical form of image memory. -/
def Memory.wf (m : List Host.Cell) : Bool := Memory.wfFrom 0 m

end Sys2Proof.Machine
end

