-- ==== Sys2Proof/Machine/Operands.lean ====
section
/-! DEFINITION. The operand forms: the command codes and the parameter layouts of 8.8, read from the
latched parameters (R139), the codes written back in results, and the fields of a received address
byte (R52). -/

namespace Sys2Proof.Machine

/-! ## Command codes (8.8) -/

def codeDefine : Byte := 0x01
def codeEnable : Byte := 0x02
def codeDisable : Byte := 0x03
def codeRelease : Byte := 0x04
def codeVtQuery : Byte := 0x05
def codeRegions : Byte := 0x10
def codeImagePut : Byte := 0x11
def codeImageGet : Byte := 0x12
def codeFlush : Byte := 0x20
def codeQueueConfig : Byte := 0x21
def codeSegment : Byte := 0x30
def codeClearCounters : Byte := 0x31
def codeSleep : Byte := 0x40
def codeAwake : Byte := 0x41
def codeReinit : Byte := 0x50

/-- The codes that name a command (8.8). -/
def commandCodes : List Byte :=
  [codeDefine, codeEnable, codeDisable, codeRelease, codeVtQuery, codeRegions, codeImagePut,
   codeImageGet, codeFlush, codeQueueConfig, codeSegment, codeClearCounters, codeSleep, codeAwake,
   codeReinit]

/-! ## Coded items (8.8). A value not listed for an item names nothing (R151). -/

/-- Segment of DEFINE and SEGMENT: `$00` A, `$01` B. -/
def segOfCode (b : Byte) : Option Seg :=
  if b = 0x00 then some .A else if b = 0x01 then some .B else none

/-- The code of a segment, in VT_QUERY (8.8) and on page 1 (10.7). -/
def segCode : Seg → Byte
  | .A => 0x00
  | .B => 0x01

/-- Wrap: `$00` WRAP, `$01` RUN. -/
def wrapOfCode (b : Byte) : Option WrapMode :=
  if b = 0x00 then some .wrap else if b = 0x01 then some .run else none

/-- Sleep policy: `$00` FILL, `$01` WAIT. -/
def sleepOfCode (b : Byte) : Option SleepPolicy :=
  if b = 0x00 then some .fill else if b = 0x01 then some .wait else none

/-- The two modes of DISABLE (2.4.3). -/
inductive DisableMode where
  | graceful
  | forced
  deriving DecidableEq, Repr

/-- DISABLE mode: `$00` GRACEFUL, `$01` FORCED. -/
def disableModeOfCode (b : Byte) : Option DisableMode :=
  if b = 0x00 then some .graceful else if b = 0x01 then some .forced else none

/-- Class of REGIONS: `$00` FIXED to `$04` DEFERRED. -/
def classOfCode (b : Byte) : Option RegionClass :=
  if b = 0x00 then some .fixed
  else if b = 0x01 then some .open_
  else if b = 0x02 then some .posted
  else if b = 0x03 then some .queued
  else if b = 0x04 then some .deferred
  else none

/-- The code of a class in VT_QUERY part 1. -/
def classCode : RegionClass → Byte
  | .fixed => 0x00
  | .open_ => 0x01
  | .posted => 0x02
  | .queued => 0x03
  | .deferred => 0x04

/-- A one-byte length, `$00` standing for 256 (8.8). -/
def lengthOfByte (b : Byte) : Nat := if b = 0 then 256 else b.toNat

/-- IMAGE_PUT flags: `$00` none, `$01` ATOMIC; whether ATOMIC is held. -/
def atomicOfCode (b : Byte) : Option Bool :=
  if b = 0x00 then some false else if b = 0x01 then some true else none

/-- Power of SEGMENT: `$00` OFF, `$01` ON; whether it is ON. -/
def powerOfCode (b : Byte) : Option Bool :=
  if b = 0x00 then some false else if b = 0x01 then some true else none

/-- The scope of FLUSH: every record, or the records of one segment. -/
inductive FlushScope where
  | all
  | only (g : Seg)
  deriving DecidableEq, Repr

/-- FLUSH scope: `$00` ALL, `$01` SEGMENT A, `$02` SEGMENT B. -/
def flushScopeOfCode (b : Byte) : Option FlushScope :=
  if b = 0x00 then some .all
  else if b = 0x01 then some (.only .A)
  else if b = 0x02 then some (.only .B)
  else none

/-- CLEAR_COUNTERS scope: `$00` BOTH, `$01` A, `$02` B; whether A and whether B is in it. -/
def counterScopeOfCode (b : Byte) : Option (Bool × Bool) :=
  if b = 0x00 then some (true, true)
  else if b = 0x01 then some (true, false)
  else if b = 0x02 then some (false, true)
  else none

/-- The code of a life-cycle state in VT_QUERY part 0. -/
def LifeState.byte : LifeState → Byte
  | .free => 0x00
  | .defined => 0x01
  | .active => 0x02
  | .closing => 0x03

/-- The flags of VT_QUERY part 0: 1 added for RUN, 2 added for WAIT. -/
def Entry.flagsByte (e : Entry) : Byte :=
  (match e.wrap with | .wrap => 0 | .run => 1) + (match e.sleep with | .fill => 0 | .wait => 2)

/-! ## Parameter layouts (8.8) -/

/-- The entry index of a command, at position 0; none for an index of 16 or more (R6). -/
def indexOf (p : Params) : Option (Fin 16) :=
  if h : p[0].toNat < 16 then some ⟨p[0].toNat, h⟩ else none

/-- A two-byte value, high byte first (R151). -/
def twoBytes (high low : Byte) : Nat := 256 * high.toNat + low.toNat

/-- The configuration a DEFINE gives its entry (R5). -/
structure TargetConfig where
  segment : Seg
  address : BusAddress
  mask : BusAddress
  base : Nat
  length : Nat
  fill : Byte
  wrap : WrapMode
  sleep : SleepPolicy
  deriving DecidableEq, Repr

/-- Whether a match set contains a reserved address: the compared bits of the address among bits 6
to 3 are all 0 or all 1 (R2). -/
def hasReserved (address mask : BusAddress) : Bool :=
  decide (address &&& mask &&& 0x78 = 0) || decide (address &&& mask &&& 0x78 = mask &&& 0x78)

/-- The configuration in DEFINE's parameters, or none where step 3 of R11 finds them invalid. -/
def targetConfig (p : Params) : Option TargetConfig :=
  match segOfCode p[1], wrapOfCode p[9], sleepOfCode p[10] with
  | some g, some w, some z =>
    let address : BusAddress := p[2].setWidth 7
    let mask : BusAddress := p[3].setWidth 7
    let base := twoBytes p[4] p[5]
    let length := twoBytes p[6] p[7]
    if p[2].toNat < 128 ∧ p[3].toNat < 128 ∧ 1 ≤ length ∧ length ≤ 256 ∧ base < Config.imageBytes
        ∧ base + length ≤ Config.imageBytes ∧ hasReserved address mask = false then
      some { segment := g, address := address, mask := mask, base := base, length := length,
             fill := p[8], wrap := w, sleep := z }
    else none
  | _, _, _ => none

/-- One region slot of REGIONS: start, length, class (8.8); none for a class code that names no
class. -/
def regionSlot (start length cls : Byte) : Option Region :=
  match classOfCode cls with
  | some c => some { start := start, length := lengthOfByte length, cls := c }
  | none => none

/-- All of a list of optional items, or none if one is missing. -/
def allOf {α : Type} : List (Option α) → Option (List α)
  | [] => some []
  | none :: _ => none
  | some a :: rest =>
    match allOf rest with
    | some l => some (a :: l)
    | none => none

/-- The regions within the count of a REGIONS command; none for a count above 4 or a class code
within the count that names no class. Slots beyond the count are not read (R151). -/
def regionList (p : Params) : Option (List Region) :=
  if p[1].toNat ≤ Config.maxRegions then
    allOf ([regionSlot p[2] p[3] p[4], regionSlot p[5] p[6] p[7], regionSlot p[8] p[9] p[10],
            regionSlot p[11] p[12] p[13]].take p[1].toNat)
  else none

/-- The data bytes of an IMAGE_PUT within its count: positions 4 to 15 hold bytes 1 to 12 (8.8). -/
def putBytes (p : Params) : List Byte := (p.toList.drop 4).take p[2].toNat

/-- The configuration in SEGMENT's parameters with its segment and whether power is ON, or none
where a check of R67 fails. -/
def segmentParams (p : Params) : Option (Seg × Bool × SegConfig) :=
  match segOfCode p[0], powerOfCode p[1] with
  | some g, some on =>
    if p[2] ≠ 0 ∧ p[3] ≠ 0 ∧ 1 ≤ p[4].toNat ∧ p[4].toNat ≤ Config.cellCount then
      some (g, on, { stretch := p[2], abandon := p[3], quota := p[4] })
    else none
  | _, _ => none

/-- Write one position of a parameter area; a position above 15 does not exist. -/
def Params.put (p : Params) (i : Nat) (b : Byte) : Params := if h : i < 16 then p.set i b h else p

/-- Write result bytes into consecutive positions of a parameter area (R140, R152). -/
def Params.putAll (p : Params) (i : Nat) : List Byte → Params
  | [] => p
  | b :: rest => Params.putAll (p.put i b) (i + 1) rest

/-! ## The address byte (R52) -/

/-- The seven address bits of a received address byte. -/
def addressBits (b : Byte) : BusAddress := b.extractLsb' 1 7

/-- The direction of a received address byte: a read/write bit of 1 means read. -/
def directionBit (b : Byte) : Direction := if b.getLsbD 0 then .read else .write

end Sys2Proof.Machine
end

