-- ==== Sys2Proof/Machine/Ops.lean ====
section
/-! DEFINITION. The named operations over the part's tables and collections: segments and table
entries, the address lookup (R1), classification and pointer steps (R27, R33), the Cell Pool and
record cutting (R77 to R83), commit and discard (R85, R88), command completion (R140, R146) and the
end of a transaction (R64). -/

namespace Sys2Proof.Machine

/-! ## Access to the state -/

/-- The Segment Controller of a segment. -/
def State.seg (s : State) : Seg → Segment
  | .A => s.segA
  | .B => s.segB

/-- The state with one Segment Controller replaced. -/
def State.setSeg (s : State) (g : Seg) (x : Segment) : State :=
  match g with
  | .A => { s with segA := x }
  | .B => { s with segB := x }

/-- The state with one Segment Controller changed by a function. -/
def State.onSeg (s : State) (g : Seg) (f : Segment → Segment) : State := s.setSeg g (f (s.seg g))

/-- The other segment. -/
def otherSeg : Seg → Seg
  | .A => .B
  | .B => .A

/-- The lines of a segment. -/
def State.lines (s : State) : Seg → Lines
  | .A => s.linesA
  | .B => s.linesB

/-- The state with the lines of one segment at new levels. -/
def State.setLines (s : State) (g : Seg) (l : Lines) : State :=
  match g with
  | .A => { s with linesA := l }
  | .B => { s with linesB := l }

/-- Entry `k` of the Virtual Target Table. -/
def State.entry (s : State) (k : Fin 16) : Entry := s.vtt[k]

/-- The state with entry `k` replaced. -/
def State.setEntry (s : State) (k : Fin 16) (e : Entry) : State := { s with vtt := s.vtt.set k e }

/-- The state with entry `k` changed by a function. -/
def State.onEntry (s : State) (k : Fin 16) (f : Entry → Entry) : State := s.setEntry k (f (s.entry k))

/-- A posting of an event kind (R156). -/
def State.post (s : State) (k : EventKind) : State := { s with events := s.events.post k }

/-! ## Segments -/

/-- The transaction of a segment state, if it is a bound one (R51). -/
def SegState.txn : SegState → Option Txn
  | .off => none
  | .idle => none
  | .address => none
  | .ignore => none
  | .wSubaddr t => some t
  | .wData t => some t
  | .wRefusing t => some t
  | .rData t => some t
  | .rStretch t _ => some t
  | .rDone t => some t

/-- The outstanding read request of a segment state (R114). -/
def SegState.request : SegState → Option Request
  | .rStretch _ r => some r
  | .off => none
  | .idle => none
  | .address => none
  | .ignore => none
  | .wSubaddr _ => none
  | .wData _ => none
  | .wRefusing _ => none
  | .rData _ => none
  | .rDone _ => none

/-- The transaction a segment is bound to. -/
def Segment.txn (x : Segment) : Option Txn := x.state.txn

/-- Whether a segment is bound (R51). -/
def Segment.bound (x : Segment) : Bool := x.txn.isSome

/-- Whether entry `k` is bound (R9): the transaction of the segment its segment field names is with
it. -/
def State.entryBound (s : State) (k : Fin 16) : Bool :=
  match (s.seg (s.entry k).segment).txn with
  | some t => t.target == k
  | none => false

/-- The period of a segment's abandon timer (R65). -/
def Segment.abandonPeriod (x : Segment) : Nat := Config.ticksPerAbandonUnit * x.config.abandon.toNat

/-- Bus activity restarts a running abandon timer with its full period (R65). -/
def Segment.busActivity (x : Segment) : Segment :=
  { x with abandonTimer := x.abandonTimer.map fun _ => x.abandonPeriod }

/-- The segment with its abandon timer started with its full period. -/
def Segment.startAbandonTimer (x : Segment) : Segment :=
  { x with abandonTimer := some x.abandonPeriod }

/-- The segment with its counters changed by a function. -/
def Segment.count (f : Counters → Counters) (x : Segment) : Segment :=
  { x with counters := f x.counters }

/-- The segment unbound in state `after`: no byte is under way, both lines are released and the
abandon timer stops (R63, R64). -/
def Segment.unbind (after : SegState) (x : Segment) : Segment :=
  { x with state := after, clock := .bits 0, sdaLow := false, sclLow := false,
           abandonTimer := none }

/-- The segment transmitting a byte of transaction `t` from its first bit, which is put on SDA; SCL
is released (R48, R59). -/
def Segment.transmit (t : Txn) (b : Byte) (x : Segment) : Segment :=
  { x with state := .rData t, clock := .bits 0, sending := b, sdaLow := !b.getMsbD 0,
           sclLow := false }

/-! ## The Virtual Target Table -/

/-- The sixteen indices, in order. -/
def allTargets : List (Fin 16) := [0, 1, 2, 3, 4, 5, 6, 7, 8, 9, 10, 11, 12, 13, 14, 15]

/-- Whether an entry is ACTIVE or CLOSING, the states a lookup considers (R1). -/
def Entry.onBus (e : Entry) : Bool := e.life == .active || e.life == .closing

/-- Whether a received address lies in an entry's match set (2.1). -/
def Entry.matchesAddress (e : Entry) (a : BusAddress) : Bool := a &&& e.mask == e.address &&& e.mask

/-- The answers of an address lookup (R1). -/
inductive LookupAnswer where
  | hit (k : Fin 16)
  | closing (k : Fin 16)
  | none
  deriving DecidableEq, Repr

/-- The address lookup of R1: among the ACTIVE and CLOSING entries of the asking segment, the one
whose match set holds the received address. -/
def State.lookup (s : State) (g : Seg) (a : BusAddress) : LookupAnswer :=
  match allTargets.find? fun k =>
      (s.entry k).onBus && (s.entry k).segment == g && (s.entry k).matchesAddress a with
  | some k => if (s.entry k).life = .active then .hit k else .closing k
  | none => .none

/-- Whether the match sets of two address and mask pairs overlap: they agree on every bit both masks
compare (R3). -/
def matchSetsOverlap (a m a' m' : BusAddress) : Bool := a &&& m &&& m' == a' &&& m &&& m'

/-- Whether enabling entry `k` would conflict: its match set overlaps that of an ACTIVE or CLOSING
entry of the same segment (R13). -/
def State.conflicts (s : State) (k : Fin 16) : Bool :=
  allTargets.any fun j =>
    (s.entry j).onBus && (s.entry j).segment == (s.entry k).segment
      && matchSetsOverlap (s.entry k).address (s.entry k).mask (s.entry j).address (s.entry j).mask

/-- Whether two image ranges share an offset: each begins before the other ends (R10). -/
def rangesShare (base length base' length' : Nat) : Bool :=
  decide (base < base' + length') && decide (base' < base + length)

/-- Whether an image range shares an offset with the range of a non-FREE entry (R10, R11). -/
def State.rangeTaken (s : State) (base length : Nat) : Bool :=
  allTargets.any fun j =>
    (s.entry j).life != .free && rangesShare base length (s.entry j).base (s.entry j).length

/-- Whether a region covers a sub-address (3.2). -/
def Region.covers (r : Region) (p : Byte) : Bool :=
  decide (r.start.toNat ≤ p.toNat) && decide (p.toNat < r.start.toNat + r.length)

/-- What a sub-address of a target is classified as (R27). -/
inductive Classification where
  | inRegion (c : RegionClass)
  | unmapped
  | outOfImage
  deriving DecidableEq, Repr

/-- The classification of a sub-address of a target (R27). -/
def Entry.classify (e : Entry) (p : Byte) : Classification :=
  if e.length ≤ p.toNat then .outOfImage
  else match e.regions.find? (·.covers p) with
    | some r => .inRegion r.cls
    | none => .unmapped

/-- The pointer one step on (R33): under WRAP, from image length - 1 to 0; otherwise one up, with
255 followed by 0. -/
def Entry.nextPointer (e : Entry) : Byte :=
  match e.wrap with
  | .wrap => if e.pointer.toNat + 1 = e.length then 0 else e.pointer + 1
  | .run => e.pointer + 1

/-- The entry with its pointer one step on. -/
def Entry.step (e : Entry) : Entry := { e with pointer := e.nextPointer }

/-- The entry with its pointer at a sub-address. -/
def Entry.pointAt (p : Byte) (e : Entry) : Entry := { e with pointer := p }

/-- The entry in another life-cycle state. -/
def Entry.become (l : LifeState) (e : Entry) : Entry := { e with life := l }

/-- The entry made FREE: its configuration, image range, region list and pointer are gone and its
generation stays (R20, R24). -/
def Entry.release (e : Entry) : Entry := Entry.freeWith e.generation

/-! ## Region lists -/

/-- Whether two regions share a sub-address. -/
def Region.meets (r q : Region) : Bool :=
  decide (r.start.toNat < q.start.toNat + q.length) && decide (q.start.toNat < r.start.toNat + r.length)

/-- Whether no two regions of a list share a sub-address (R35). -/
def disjointRegions : List Region → Bool
  | [] => true
  | r :: rest => rest.all (fun q => !r.meets q) && disjointRegions rest

/-- A region put into a list in order of start. -/
def insertRegion (r : Region) : List Region → List Region
  | [] => [r]
  | q :: rest => if r.start.toNat ≤ q.start.toNat then r :: q :: rest else q :: insertRegion r rest

/-- A list of regions in order of start (R36). -/
def sortRegions : List Region → List Region
  | [] => []
  | r :: rest => insertRegion r (sortRegions rest)

/-- Whether a list is valid for an image length: each region ends within the image and no two share a
sub-address (R35). -/
def validRegions (length : Nat) (l : List Region) : Bool :=
  l.all (fun r => decide (r.start.toNat + r.length ≤ length)) && disjointRegions l

/-! ## The Cell Pool (5.2) -/

/-- The cells a segment holds reserved (R76). -/
def Pool.reserved (p : Pool) : Seg → Nat
  | .A => p.reservedA
  | .B => p.reservedB

/-- The pool with another reserved count for a segment. -/
def Pool.setReserved (p : Pool) (g : Seg) (n : Nat) : Pool :=
  match g with
  | .A => { p with reservedA := n }
  | .B => { p with reservedB := n }

/-- Whether a reservation would be granted: a cell is free and the reserved count is below the quota
(R77). -/
def Pool.grants (p : Pool) (g : Seg) (quota : Byte) : Bool :=
  decide (0 < p.free) && decide (p.reserved g < quota.toNat)

/-- A granted reservation: one free cell becomes reserved to the segment (R77). -/
def Pool.reserve (p : Pool) (g : Seg) : Pool :=
  { p with free := p.free - 1 }.setReserved g (p.reserved g + 1)

/-- `n` cells become free: queued ones whose records leave the queue (R90), or reserved ones whose
open records are discarded (R88). -/
def Pool.release (p : Pool) (n : Nat) : Pool := { p with free := p.free + n }

/-! ## Cutting a transaction into records (5.3) -/

/-- The last open record of a transaction (R80). -/
def Txn.lastRecord (t : Txn) : Option OpenRecord := t.records.getLast?

/-- Whether a recorded byte at a sub-address extends an open record (R80): it has room, its last
byte's sub-address plus one, without wrap, is the byte's, and no byte was acknowledged without being
recorded since. -/
def OpenRecord.extendsTo (r : OpenRecord) (unrecorded : Bool) (p : Byte) : Bool :=
  decide (r.data.length < Config.cellBytes) && decide (r.start.toNat + r.data.length = p.toNat)
    && !unrecorded

/-- The record with one more data byte. -/
def OpenRecord.append (b : Byte) (r : OpenRecord) : OpenRecord := { r with data := r.data ++ [b] }

/-- A list with its last item changed by a function. -/
def mapLast {α : Type} (f : α → α) : List α → List α
  | [] => []
  | [a] => [f a]
  | a :: b :: rest => a :: mapLast f (b :: rest)

/-- The transaction after a byte has extended its last open record (R80). -/
def Txn.extend (b : Byte) (t : Txn) : Txn :=
  { t with records := mapLast (·.append b) t.records, unrecorded := false }

/-- The record a granted reservation opens (R81). -/
def newRecord (g : Seg) (e : Entry) (t : Txn) (b : Byte) : OpenRecord :=
  { segment := g, target := t.target, generation := e.generation, address := t.address,
    start := e.pointer, data := [b], continued := !t.records.isEmpty, cut := false }

/-- The transaction after a record has been opened in it (R81). -/
def Txn.openWith (r : OpenRecord) (t : Txn) : Txn :=
  { t with records := t.records ++ [r], unrecorded := false }

/-- The transaction after an OPEN byte: acknowledged without being recorded (R80). -/
def Txn.passOver (t : Txn) : Txn := { t with unrecorded := true }

/-- The transaction on entry to W_REFUSING: its last open record receives CUT (R83). -/
def Txn.cutLast (t : Txn) : Txn := { t with records := mapLast (fun r => { r with cut := true }) t.records }

/-! ## Commit and discard (5.5) -/

/-- The first value from `v` on, with 255 followed by 0, that is not among the used numbers, looking
at no more than `fuel` of them. -/
def firstUnused (used : List Byte) : Nat → Byte → Byte
  | 0, v => v
  | fuel + 1, v => if used.contains v then firstUnused used fuel (v + 1) else v

/-- The value after `v` that R95 defines: values a queued record carries are passed over. -/
def valueAfter (used : List Byte) (v : Byte) : Byte := firstUnused used 256 (v + 1)

/-- The numbers the records of a queue carry. -/
def InboundQueue.numbers (q : InboundQueue) : List Byte := q.records.map (·.number)

/-- One committed record placed at the tail, with the counter's value as its number; the counter moves
to the value after it (R85, R95). DESIGN CHOICE where R105 says that a commit and a POP end with the same
queue in both orders: the model numbers by R95 in each order, so the number of the popped record is passed
over where the commit comes first and may be given out where the POP does (notes/assumptions/23.md). -/
def InboundQueue.push (cause : CommitCause) (q : InboundQueue) (r : OpenRecord) : InboundQueue :=
  { q with records := q.records ++ [{ body := r, cause := cause, number := q.counter }]
           counter := valueAfter (q.numbers ++ [q.counter]) q.counter }

/-- The records of a commit placed at the tail, in the order they were opened (R85). -/
def InboundQueue.pushAll (cause : CommitCause) (q : InboundQueue) : List OpenRecord → InboundQueue
  | [] => q
  | r :: rest => InboundQueue.pushAll cause (q.push cause r) rest

/-- The events of a commit that took the depth from `before` to `after` (R97). -/
def State.postQueueEvents (s : State) (before after : Nat) : State :=
  let s := if before = 0 then s.post .queueArrival else s
  if before < s.queue.threshold ∧ s.queue.threshold ≤ after then s.post .queueLevel else s

/-- The commit of a transaction's open records (R85, R97, R101): they join the tail of the queue, their
cells pass from reserved to queued, and the segment's reserved count returns to 0. A transaction with
no open record commits nothing and posts nothing (R87). -/
def State.commitRecords (s : State) (g : Seg) (cause : CommitCause) (records : List OpenRecord) :
    State :=
  let s := { s with pool := s.pool.setReserved g 0 }
  if records.isEmpty then s
  else
    let before := s.queue.records.length
    let q := InboundQueue.pushAll cause s.queue records
    let index := if before = 0 then 0 else s.window.dataIndex
    State.postQueueEvents { s with queue := q, window := { s.window with dataIndex := index } }
      before q.records.length

/-- The discard of a transaction's open records: their cells pass from reserved to free (R88). -/
def State.discardRecords (s : State) (g : Seg) : State :=
  { s with pool := (s.pool.release (s.pool.reserved g)).setReserved g 0 }

/-! ## Command completion (8.4, 8.5) -/

/-- A completion with a result code: the engine passes to IDLE and COMMAND_DONE is posted (R140,
R141). -/
def State.complete (s : State) (r : ResultCode) : State :=
  State.post { s with engine := { s.engine with state := .idle, result := r } } .commandDone

/-- Result bytes written into the parameter area from a position on (R140, R152). -/
def State.writeResults (s : State) (i : Nat) (bytes : List Byte) : State :=
  { s with engine := { s.engine with params := s.engine.params.putAll i bytes } }

/-- Entry into WAITING with the awaited segment and the held values (R144). -/
def State.await (s : State) (g : Seg) (h : Held) : State :=
  { s with engine := { s.engine with state := .waiting g h } }

/-- Bytes written into the image of entry `k` from a sub-address on (R40). -/
def State.putImage (s : State) (k : Fin 16) (offset : Byte) (bytes : List Byte) : State :=
  { s with image := Memory.writeAll s.image ((s.entry k).base + offset.toNat) bytes }

/-- One byte of the image of entry `k` (R25). -/
def State.imageByte (s : State) (k : Fin 16) (p : Byte) : Byte :=
  Memory.read s.image ((s.entry k).base + p.toNat)

/-- The region list of entry `k` becomes the given regions, in order of start (R36). -/
def State.setRegions (s : State) (k : Fin 16) (l : List Region) : State :=
  s.onEntry k fun e => { e with regions := sortRegions l }

/-- The effect a WAITING command takes at the end of the transaction on its awaited segment `g`
(R145): R16 for a graceful DISABLE, R37 for REGIONS, R41 for an ATOMIC IMAGE_PUT, R68 for a SEGMENT
that keeps the segment ON. -/
def State.applyHeld (s : State) (g : Seg) : Held → State
  | .disable k => s.onEntry k (Entry.become .defined)
  | .regions k l => s.setRegions k l
  | .imagePut k offset bytes => s.putImage k offset bytes
  | .segment c => s.onSeg g fun x => { x with config := c }

/-- The completion of a command that waits for the transaction of segment `g`, in the event that ends
it (R146). A command that waits for the other segment, or none, is not reached. -/
def State.completeWaiting (s : State) (g : Seg) : State :=
  match s.engine.state with
  | .waiting awaited h => if awaited = g then (s.applyHeld g h).complete .ok else s
  | .idle => s
  | .running => s

/-! ## The end of a transaction (4.7) -/

/-- The end of transaction `t` on segment `g`, which passes to state `after` (R64): the segment
unbinds, the open records are committed or discarded, and a command that waits for this end takes
its effect (a CLOSING target becomes DEFINED with its graceful DISABLE, R16). The read-ahead, the
expired mode and an outstanding request go with the transaction. -/
def State.endTransaction (s : State) (g : Seg) (t : Txn) (cause : EndCause) (after : SegState) :
    State :=
  let s := s.onSeg g (Segment.unbind after)
  let s := match cause with
    | .commit c => s.commitRecords g c t.records
    | .abandoned => s.discardRecords g
  s.completeWaiting g

/-- The abandonment of the transaction bound on segment `g`, if there is one (R63): ABANDONED rises,
TRANSACTION_ABANDONED is posted, and the end takes effect. -/
def State.abandon (s : State) (g : Seg) (after : SegState) : State :=
  match (s.seg g).txn with
  | none => s
  | some t =>
    State.endTransaction
      ((s.onSeg g (Segment.count Counters.countAbandoned)).post .transactionAbandoned)
      g t .abandoned after

end Sys2Proof.Machine
end

