-- ==== Sys2Proof/Machine/Reads.lean ====
section
/-! DEFINITION. The Deferred Read Unit: the choice of a needed byte's source (R110), read requests
(R112, R113), the answer port (R115 to R120) and stretch expiry (R123). -/

namespace Sys2Proof.Machine

/-- Whether the read-ahead holds a byte whose sub-address is `p`: its first byte, at its next
sub-address (R121). -/
def ReadAhead.serves (a : ReadAhead) (p : Byte) : Bool := !a.bytes.isEmpty && a.next == p.toNat

/-- The read-ahead after its first byte has been sent: the next sub-address rises by one, and an
exhausted read-ahead is discarded (R121). -/
def ReadAhead.consume (a : ReadAhead) : ReadAhead :=
  match a.bytes with
  | [] => ReadAhead.empty
  | [_] => ReadAhead.empty
  | _ :: b :: rest => { next := a.next + 1, bytes := b :: rest }

/-- Where a needed byte comes from (R110). -/
inductive ByteSource where
  /-- Sent at once: a byte that is not DEFERRED, or one of expired mode (steps 1 and 2). -/
  | now (b : Byte)
  /-- The read-ahead's first byte (step 3). -/
  | fromAhead (b : Byte)
  /-- The fill byte, since the host is ASLEEP and the policy is FILL (step 4). -/
  | filledAsleep (b : Byte)
  /-- Asked of the host (step 5). -/
  | request
  deriving DecidableEq, Repr

/-- The source of the byte needed at the pointer of transaction `t`'s target (R28, R110). -/
def State.byteSource (s : State) (t : Txn) : ByteSource :=
  let e := s.entry t.target
  match e.classify e.pointer with
  | .unmapped => .now e.fill
  | .outOfImage => .now e.fill
  | .inRegion .fixed => .now (s.imageByte t.target e.pointer)
  | .inRegion .open_ => .now (s.imageByte t.target e.pointer)
  | .inRegion .posted => .now (s.imageByte t.target e.pointer)
  | .inRegion .queued => .now (s.imageByte t.target e.pointer)
  | .inRegion .deferred =>
    if t.expired then .now e.fill
    else if t.ahead.serves e.pointer then .fromAhead (t.ahead.bytes.headD 0)
    else if s.events.host = .asleep ∧ e.sleep = .fill then .filledAsleep e.fill
    else .request

/-- The number a new request of segment `g` takes: the sequence counter's value, or the one after it
where the other segment's outstanding request carries that value (R113). -/
def State.nextSequence (s : State) (g : Seg) : Byte :=
  match (s.seg (otherSeg g)).state.request with
  | some r => if r.sequence = s.dru.sequenceCounter then s.dru.sequenceCounter + 1
              else s.dru.sequenceCounter
  | none => s.dru.sequenceCounter

/-- The event kind of a request on a segment (R112). -/
def requestKind : Seg → EventKind
  | .A => .requestA
  | .B => .requestB

/-- The segment stretching for a request of transaction `t`: SCL is held low, the abandon timer stops
and the expiry memory is emptied (R59, R112). -/
def Segment.stretch (t : Txn) (r : Request) (x : Segment) : Segment :=
  { x with state := .rStretch t r, clock := .bits 0, sdaLow := false, sclLow := true,
           abandonTimer := none, expiryMemory := none }

/-- The creation of a read request of segment `g` for the byte at the pointer of `t`'s target (R112);
`position` is the position the byte received (R57). -/
def State.createRequest (s : State) (g : Seg) (t : Txn) (position : Byte) : State :=
  let n := s.nextSequence g
  let r : Request :=
    { sequence := n, target := t.target, sub := (s.entry t.target).pointer, position := position,
      remaining := (s.seg g).config.stretch.toNat }
  State.post
    { (s.onSeg g (Segment.stretch t r)) with dru := { s.dru with sequenceCounter := n + 1 } }
    (requestKind g)

/-- The need of a byte by transaction `t` on segment `g` (R57, R110): the byte receives the current
position, which then rises by one and stays at 255; it is sent at once or asked of the host. A
read-ahead that does not serve a need is discarded (R121). -/
def State.needByte (s : State) (g : Seg) (t : Txn) : State :=
  let next := { t with position := saturatingInc t.position }
  let emptied := { next with ahead := ReadAhead.empty }
  match s.byteSource t with
  | .now b => s.onSeg g (Segment.transmit emptied b)
  | .fromAhead b => s.onSeg g (Segment.transmit { next with ahead := t.ahead.consume } b)
  | .filledAsleep b =>
    (s.onSeg g fun x => (x.count Counters.countFilled).transmit emptied b).post .deferredFilled
  | .request => s.createRequest g emptied t.position

/-! ## The answer port (7.3) -/

/-- The transaction and the request of a segment stretched on the request with a sequence number. -/
def Segment.stretchedOn (n : Byte) (x : Segment) : Option (Txn × Request) :=
  match x.state with
  | .rStretch t r => if r.sequence = n then some (t, r) else none
  | .off => none
  | .idle => none
  | .address => none
  | .ignore => none
  | .wSubaddr _ => none
  | .wData _ => none
  | .wRefusing _ => none
  | .rData _ => none
  | .rDone _ => none

/-- The segment, transaction and outstanding request a sequence number names (R115, step 1). -/
def State.requestNumbered (s : State) (n : Byte) : Option (Seg × Txn × Request) :=
  match s.segA.stretchedOn n with
  | some (t, r) => some (.A, t, r)
  | none =>
    match s.segB.stretchedOn n with
    | some (t, r) => some (.B, t, r)
    | none => none

/-- Whether the expiry memory of either segment holds a sequence number (R115, step 2). -/
def State.inExpiryMemory (s : State) (n : Byte) : Bool :=
  s.segA.expiryMemory == some n || s.segB.expiryMemory == some n

/-- The outcome of a commit to the answer port (R118). -/
def State.commitOutcome (s : State) : AnswerOutcome :=
  if s.dru.overlong then .overlong
  else if s.dru.staging.isEmpty then .empty
  else match s.requestNumbered s.dru.answerSeq with
    | some _ => .accepted
    | none => if s.inExpiryMemory s.dru.answerSeq then .late else .noRequest

/-- The read-ahead an accepted answer loads for sub-address `p` (R120): the staged bytes after the
first, but for those whose sub-address would exceed 255. -/
def loadedAhead (p : Byte) (rest : List Byte) : ReadAhead :=
  match rest.take (255 - p.toNat) with
  | [] => ReadAhead.empty
  | b :: more => { next := p.toNat + 1, bytes := b :: more }

/-- The delivery of staged bytes to the request `r` of transaction `t` on segment `g` (R119): the
request and its stretch timer are gone, the first byte is sent, the others are read ahead, and the
abandon timer starts with its full period (R59). -/
def State.deliver (s : State) (g : Seg) (t : Txn) (r : Request) (bytes : List Byte) : State :=
  s.onSeg g fun x =>
    (x.transmit { t with ahead := loadedAhead r.sub bytes.tail } (bytes.headD 0)).startAbandonTimer

/-- The staging list emptied, its OVERLONG mark removed (R117). -/
def ReadUnit.emptyStaging (d : ReadUnit) : ReadUnit := { d with staging := [], overlong := false }

/-- A commit to the answer port (R118): it is judged, delivered where ACCEPTED, and the staging list is
emptied whatever the outcome. -/
def State.commitAnswer (s : State) : State :=
  let outcome := s.commitOutcome
  let delivered := match outcome with
    | .accepted =>
      match s.requestNumbered s.dru.answerSeq with
      | some (g, t, r) => s.deliver g t r s.dru.staging
      | none => s
    | .overlong => s
    | .empty => s
    | .late => s
    | .noRequest => s
  { delivered with dru := { s.dru.emptyStaging with lastOutcome := outcome } }

/-- A byte offered to the staging list (R116): appended while it holds fewer than 8 bytes; otherwise
the staging is marked OVERLONG. -/
def ReadUnit.stage (b : Byte) (d : ReadUnit) : ReadUnit :=
  if d.staging.length < Config.stagingBytes then { d with staging := d.staging ++ [b] }
  else { d with overlong := true }

/-! ## Stretch expiry (7.5) -/

/-- The expiry of the stretch timer of segment `g` for request `r` of transaction `t` (R123): the
number goes into the expiry memory, the transaction enters expired mode, the fill byte is sent,
EXPIRED rises and STRETCH_EXPIRED is posted. -/
def State.expireStretch (s : State) (g : Seg) (t : Txn) (r : Request) : State :=
  State.post
    (s.onSeg g fun x =>
      Segment.startAbandonTimer
        { (x.count Counters.countExpired).transmit { t with expired := true }
            (s.entry t.target).fill with expiryMemory := some r.sequence })
    .stretchExpired

end Sys2Proof.Machine
end

