-- ==== Sys2Proof/Machine/Bus.lean ====
section
/-! DEFINITION. The bus: which conditions and edges arise on a segment's lines (R45, R46), which row
of the table an edge of SCL is, and what START, STOP, SCL edges and byte completions do.

A line can only do what its level allows: SDA falls from high and rises from low, SCL likewise. A
command that names a condition or an edge its lines cannot make, or an edge that is another row's,
names no event of the part and changes nothing (NOTES.md, assumption 1). The lines follow the board
even while the segment is OFF or RESET is asserted; nothing else does. -/

namespace Sys2Proof.Machine

/-! ## Line events -/

/-- Whether SDA can fall while SCL is high on segment `g` (R45, R47, R59): SCL is high, SDA is high and
the part holds neither line. -/
def State.startArises (s : State) (g : Seg) : Bool :=
  (s.lines g).scl && (s.lines g).sda && !(s.seg g).sdaLow && !(s.seg g).sclLow

/-- Whether SDA can rise while SCL is high on segment `g` (R45, R47, R60): SCL is high, a party other
than the part pulls SDA low, and the part holds neither line. -/
def State.stopArises (s : State) (g : Seg) : Bool :=
  (s.lines g).scl && !(s.lines g).sda && !(s.seg g).sdaLow && !(s.seg g).sclLow

/-- Whether SCL can rise on segment `g`: it is low, and not held low by the part (R59). -/
def State.canRise (s : State) (g : Seg) : Bool := !(s.lines g).scl && !(s.seg g).sclLow

/-- Whether SCL can fall on segment `g`: it is high. -/
def State.canFall (s : State) (g : Seg) : Bool := (s.lines g).scl

/-- SCL rises while the other parties leave SDA at a level. -/
def State.raiseClock (s : State) (g : Seg) (sda : Bool) : State :=
  s.setLines g { scl := true, sda := sda }

/-- SCL falls. -/
def State.lowerClock (s : State) (g : Seg) : State :=
  s.setLines g { s.lines g with scl := false }

/-! ## Which row an edge is -/

/-- The rows of the table that are edges of SCL; `never` for an edge that cannot come at that place in
a byte. -/
inductive EdgeRow where
  | addressByte
  | subAddressByte
  | writeDataByte
  | writeAckBit
  | byteNeed
  | masterAckBit
  | sclEdge
  | never
  deriving DecidableEq, Repr

/-- The row of a rising edge (R46): it samples one of eight bits, or it is the ninth, which belongs to
WRITE_ACK_BIT after an acknowledged data byte and to MASTER_ACK_BIT after a transmitted one. -/
def ByteClock.riseRow : ByteClock → EdgeRow
  | .bits n => if n < 8 then .sclEdge else .never
  | .ack .dataAcked false => .writeAckBit
  | .ack .transmitted false => .masterAckBit
  | .ack _ false => .sclEdge
  | .ack _ true => .never

/-- The row of a falling edge in a state that receives, whose byte completion is row `completion`. -/
def ByteClock.receiverFallRow (completion : EdgeRow) : ByteClock → EdgeRow
  | .bits n => if n = 8 then completion else .sclEdge
  | .ack _ true => .sclEdge
  | .ack _ false => .never

/-- The row of a falling edge in R_DATA: it ends an acknowledge clock, which is a byte need (R57), or
it belongs to the transmitted byte (R48). -/
def ByteClock.senderFallRow : ByteClock → EdgeRow
  | .bits _ => .sclEdge
  | .ack _ true => .byteNeed
  | .ack _ false => .never

/-- The row of a rising edge of SCL on a segment. Where the segment takes no bits, every edge is an
SCL_EDGE (R53, R58). -/
def Segment.riseRow (x : Segment) : EdgeRow :=
  match x.state with
  | .off => .sclEdge
  | .idle => .sclEdge
  | .address => x.clock.riseRow
  | .ignore => .sclEdge
  | .wSubaddr _ => x.clock.riseRow
  | .wData _ => x.clock.riseRow
  | .wRefusing _ => x.clock.riseRow
  | .rData _ => x.clock.riseRow
  | .rStretch _ _ => .never
  | .rDone _ => .sclEdge

/-- The row of a falling edge of SCL on a segment. -/
def Segment.fallRow (x : Segment) : EdgeRow :=
  match x.state with
  | .off => .sclEdge
  | .idle => .sclEdge
  | .address => x.clock.receiverFallRow .addressByte
  | .ignore => .sclEdge
  | .wSubaddr _ => x.clock.receiverFallRow .subAddressByte
  | .wData _ => x.clock.receiverFallRow .writeDataByte
  | .wRefusing _ => x.clock.receiverFallRow .writeDataByte
  | .rData _ => x.clock.senderFallRow
  | .rStretch _ _ => .never
  | .rDone _ => .sclEdge

/-- Whether a falling edge of SCL that is `row` arises on segment `g`. -/
def State.fallArises (s : State) (g : Seg) (row : EdgeRow) : Bool :=
  !s.inReset && s.canFall g && (s.seg g).fallRow == row

/-- Whether a rising edge of SCL that is `row` arises on segment `g`. -/
def State.riseArises (s : State) (g : Seg) (row : EdgeRow) : Bool :=
  !s.inReset && s.canRise g && (s.seg g).riseRow == row

/-! ## SCL edges that are no other row -/

/-- Whether a segment state takes bits from the bus (R46, R53, R58). -/
def SegState.takesBits : SegState → Bool
  | .off => false
  | .idle => false
  | .address => true
  | .ignore => false
  | .wSubaddr _ => true
  | .wData _ => true
  | .wRefusing _ => true
  | .rData _ => true
  | .rStretch _ _ => false
  | .rDone _ => false

/-- A rising edge with SDA at level `line` (R45, R46): one bit is sampled, most significant first, or
the ninth edge of the acknowledge clock is taken. -/
def Segment.takeRise (line : Bool) (x : Segment) : Segment :=
  if x.state.takesBits then
    match x.clock with
    | .bits n => { x with clock := .bits (n + 1), shift := x.shift.shiftConcat line }
    | .ack k _ => { x with clock := .ack k true }
  else x

/-- A falling edge in R_DATA (R48): the next bit is presented, or, at the byte's completion, SDA is
released for the acknowledge clock. -/
def Segment.presentNext (x : Segment) : Segment :=
  match x.clock with
  | .bits n =>
    if n = 8 then { x with clock := .ack .transmitted false, sdaLow := false }
    else { x with sdaLow := !x.sending.getMsbD n }
  | .ack _ _ => x

/-- A falling edge while receiving (R46, R47): it settles a bit, or it ends an acknowledge clock, at
which the part releases SDA and the next byte begins. -/
def Segment.settle (x : Segment) : Segment :=
  match x.clock with
  | .bits _ => x
  | .ack _ _ => { x with clock := .bits 0, sdaLow := false }

/-- A falling edge that is an SCL_EDGE. -/
def Segment.takeFall (x : Segment) : Segment :=
  match x.state with
  | .off => x
  | .idle => x
  | .address => x.settle
  | .ignore => x
  | .wSubaddr _ => x.settle
  | .wData _ => x.settle
  | .wRefusing _ => x.settle
  | .rData _ => x.presentNext
  | .rStretch _ _ => x
  | .rDone _ => x

/-- The level of SDA on segment `g` when the other parties leave it at `sda` (4.1). -/
def State.sdaLine (s : State) (g : Seg) (sda : Bool) : Bool := sda && !(s.seg g).sdaLow

/-- An edge of SCL (R45, R46, R48, R65). On an OFF segment, and while RESET is asserted, only the line
follows it. -/
def State.clockEdge (s : State) (g : Seg) : ClockEdge → State
  | .rise sda =>
    if s.inReset then (if s.canRise g then s.raiseClock g sda else s)
    else if s.riseArises g .sclEdge then
      (s.raiseClock g sda).onSeg g fun x => (x.takeRise (s.sdaLine g sda)).busActivity
    else s
  | .fall =>
    if s.inReset then (if s.canFall g then s.lowerClock g else s)
    else if s.fallArises g .sclEdge then
      (s.lowerClock g).onSeg g fun x => x.takeFall.busActivity
    else s

/-! ## START and STOP -/

/-- Whether a byte is open (R46): from the settling of its first bit, at the fall of SCL after its
first rising edge, to its completion. -/
def ByteClock.byteOpen (scl : Bool) : ByteClock → Bool
  | .bits n => decide (2 ≤ n) || (decide (n = 1) && !scl)
  | .ack _ _ => false

/-- Whether a condition on segment `g` is mid-byte (R46). In R_DONE no byte is open (R58). -/
def State.midByte (s : State) (g : Seg) : Bool :=
  match (s.seg g).state with
  | .rDone _ => false
  | _ => (s.seg g).clock.byteOpen (s.lines g).scl

/-- A framing break (R62): BROKEN rises, FRAMING_BREAK is posted, and the transaction ends with cause
BROKEN. -/
def State.framingBreak (s : State) (g : Seg) (t : Txn) (after : SegState) : State :=
  State.endTransaction
    ((s.onSeg g (Segment.count Counters.countBroken)).post .framingBreak)
    g t (.commit .broken) after

/-- The end of a bound transaction by a START or STOP (R60 to R62): a framing break mid-byte, and
otherwise an end with the condition's own cause. -/
def State.endByCondition (s : State) (g : Seg) (t : Txn) (cause : CommitCause) (after : SegState) :
    State :=
  if s.midByte g then s.framingBreak g t after
  else s.endTransaction g t (.commit cause) after

/-- A START recognised by segment `g` (R52, R53, R61, R62). -/
def State.recogniseStart (s : State) (g : Seg) : State :=
  match (s.seg g).state with
  | .off => s
  | .idle => s.onSeg g (Segment.unbind .address)
  | .address => s.onSeg g (Segment.unbind .address)
  | .ignore => s.onSeg g (Segment.unbind .address)
  | .wSubaddr t => s.endByCondition g t .repeatedStart .address
  | .wData t => s.endByCondition g t .repeatedStart .address
  | .wRefusing t => s.endByCondition g t .repeatedStart .address
  | .rData t => s.endByCondition g t .repeatedStart .address
  | .rStretch _ _ => s
  | .rDone t => s.endByCondition g t .repeatedStart .address

/-- A STOP recognised by segment `g` (R53, R60, R62). -/
def State.recogniseStop (s : State) (g : Seg) : State :=
  match (s.seg g).state with
  | .off => s
  | .idle => s
  | .address => s.onSeg g (Segment.unbind .idle)
  | .ignore => s.onSeg g (Segment.unbind .idle)
  | .wSubaddr t => s.endByCondition g t .stop .idle
  | .wData t => s.endByCondition g t .stop .idle
  | .wRefusing t => s.endByCondition g t .stop .idle
  | .rData t => s.endByCondition g t .stop .idle
  | .rStretch _ _ => s
  | .rDone t => s.endByCondition g t .stop .idle

/-- SDA falls on segment `g` while SCL is high. -/
def State.startCondition (s : State) (g : Seg) : State :=
  if s.startArises g then
    let s' := s.setLines g { s.lines g with sda := false }
    if s.inReset then s' else s'.recogniseStart g
  else s

/-- SDA rises on segment `g` while SCL is high. -/
def State.stopCondition (s : State) (g : Seg) : State :=
  if s.stopArises g then
    let s' := s.setLines g { s.lines g with sda := true }
    if s.inReset then s' else s'.recogniseStop g
  else s

/-! ## Byte completions -/

/-- The acknowledge clock of a received byte begins (R47): SDA is pulled low for an ACK and left
released for a NACK. -/
def Segment.beginAck (kind : AckKind) (ack : Bool) (x : Segment) : Segment :=
  { x with clock := .ack kind false, sdaLow := ack }

/-- The segment in another state. -/
def Segment.enter (state : SegState) (x : Segment) : Segment := { x with state := state }

/-- The context of a transaction that has just bound to entry `k` (R50). -/
def newTxn (k : Fin 16) (b : Byte) : Txn :=
  { target := k, direction := directionBit b, address := addressBits b, position := 0,
    records := [], unrecorded := false, ahead := ReadAhead.empty, expired := false }

/-- The state a segment binds into (R52). -/
def boundState (t : Txn) : SegState :=
  match t.direction with
  | .write => .wSubaddr t
  | .read => .rData t

/-- The completion of an address byte (R1, R52). -/
def State.completeAddress (s : State) (g : Seg) : State :=
  let b := (s.seg g).shift
  match s.lookup g (addressBits b) with
  | .hit k =>
    (s.lowerClock g).onSeg g fun x =>
      ((x.enter (boundState (newTxn k b))).beginAck .address true).startAbandonTimer
  | .closing _ => (s.lowerClock g).onSeg g (Segment.unbind .ignore)
  | .none => (s.lowerClock g).onSeg g (Segment.unbind .ignore)

/-- The completion of a sub-address byte of transaction `t` (R29, R54). -/
def State.completeSubAddress (s : State) (g : Seg) (t : Txn) : State :=
  ((s.lowerClock g).onEntry t.target (Entry.pointAt (s.seg g).shift)).onSeg g fun x =>
    ((x.enter (.wData t)).beginAck .subAddress true).busActivity

/-- An acknowledged data byte: the segment stays in W_DATA (R55). -/
def State.acceptByte (s : State) (g : Seg) (t : Txn) : State :=
  s.onSeg g fun x => ((x.enter (.wData t)).beginAck .dataAcked true).busActivity

/-- A refused data byte (R55, R56): REFUSED_BYTES rises and the segment is in W_REFUSING. -/
def State.refuseByte (s : State) (g : Seg) (t : Txn) : State :=
  s.onSeg g fun x =>
    (((x.enter (.wRefusing t)).beginAck .dataRefused false).count Counters.countRefused).busActivity

/-- A byte written into the image at the pointer of entry `k` (R30). -/
def State.applyByte (s : State) (k : Fin 16) (b : Byte) : State :=
  s.putImage k (s.entry k).pointer [b]

/-- What becomes of a byte that must be recorded (R77, R80). -/
inductive Recording where
  /-- It extends the last open record. -/
  | extended
  /-- It opens a record in a newly reserved cell. -/
  | opened
  /-- The reservation is refused. -/
  | refused
  deriving DecidableEq, Repr

/-- Where a byte at the pointer of `t`'s target finds its place (R77, R80). -/
def State.recording (s : State) (g : Seg) (t : Txn) : Recording :=
  let extending := match t.lastRecord with
    | some r => r.extendsTo t.unrecorded (s.entry t.target).pointer
    | none => false
  if extending then .extended
  else if s.pool.grants g (s.seg g).config.quota then .opened
  else .refused

/-- A data byte of class POSTED, QUEUED or DEFERRED (R31, R80 to R83): recorded and acknowledged, and
for POSTED (`applied`) written into the image; or refused with POOL_REFUSAL posted and CUT given. -/
def State.recordByte (s : State) (g : Seg) (t : Txn) (applied : Bool) : State :=
  let b := (s.seg g).shift
  let placed (s : State) (t' : Txn) : State :=
    (if applied then s.applyByte t.target b else s).acceptByte g t'
  match s.recording g t with
  | .extended => placed s (t.extend b)
  | .opened =>
    placed { s with pool := s.pool.reserve g } (t.openWith (newRecord g (s.entry t.target) t b))
  | .refused => (s.refuseByte g t.cutLast).post .poolRefusal

/-- The completion of a data byte in W_DATA (R30, R55). -/
def State.completeData (s : State) (g : Seg) (t : Txn) : State :=
  let s' := s.lowerClock g
  match (s.entry t.target).classify (s.entry t.target).pointer with
  | .unmapped => s'.refuseByte g t.cutLast
  | .outOfImage => s'.refuseByte g t.cutLast
  | .inRegion .fixed => s'.refuseByte g t.cutLast
  | .inRegion .open_ => (s'.applyByte t.target (s.seg g).shift).acceptByte g t.passOver
  | .inRegion .posted => s'.recordByte g t true
  | .inRegion .queued => s'.recordByte g t false
  | .inRegion .deferred => s'.recordByte g t false

/-- The completion of a data byte in W_REFUSING (R56, R84). -/
def State.completeRefused (s : State) (g : Seg) (t : Txn) : State :=
  (s.lowerClock g).refuseByte g t

/-- The ninth rising edge of an acknowledged data byte of transaction `t` (R55): the pointer steps. -/
def State.takeWriteAck (s : State) (g : Seg) (t : Txn) (sda : Bool) : State :=
  ((s.raiseClock g sda).onEntry t.target Entry.step).onSeg g fun x =>
    { x with clock := .ack .dataAcked true }.busActivity

/-- The ninth rising edge of a transmitted byte of transaction `t` (R58): the pointer steps; SDA low is
the master's ACK, and SDA high its NACK, which leads to R_DONE. -/
def State.takeMasterAck (s : State) (g : Seg) (t : Txn) (sda : Bool) : State :=
  ((s.raiseClock g sda).onEntry t.target Entry.step).onSeg g fun x =>
    { x with state := if s.sdaLine g sda then .rDone t else .rData t,
             clock := .ack .transmitted true }.busActivity

/-- The falling edge at which a read transaction needs a byte (R57). The edge is bus activity first;
then the source is chosen. -/
def State.takeByteNeed (s : State) (g : Seg) (t : Txn) : State :=
  State.needByte ((s.lowerClock g).onSeg g Segment.busActivity) g t

/-! ## Timers -/

/-- The expiry of the abandon timer of segment `g` (R65, R63). -/
def State.expireAbandon (s : State) (g : Seg) : State := s.abandon g .idle

/-- A tick at the timers of segment `g` (R49, R65, R122): each running timer counts down, and one whose
last tick this is expires in the same event. The abandon timer does not run in R_STRETCH, so at most
one of the two runs. -/
def State.tickSegment (s : State) (g : Seg) : State :=
  match (s.seg g).state with
  | .rStretch t r =>
    if r.remaining ≤ 1 then s.expireStretch g t r
    else s.onSeg g (Segment.enter (.rStretch t { r with remaining := r.remaining - 1 }))
  | _ =>
    match (s.seg g).abandonTimer with
    | none => s
    | some n =>
      if n ≤ 1 then s.expireAbandon g
      else s.onSeg g fun x => { x with abandonTimer := some (n - 1) }

end Sys2Proof.Machine
end

