-- ==== Sys2Proof/Machine/TableCommands.lean ====
section
/-! DEFINITION. The completion checks of the table commands DEFINE, ENABLE, DISABLE, RELEASE and
VT_QUERY (2.4), and what every completion check shares (R139). -/

namespace Sys2Proof.Machine

/-- The outcome of a command of the part. -/
abbrev Answer := Host.Outcome State Fault Refusal

/-- Whether the completion check of a held code arises (R139): the engine is RUNNING with that code. A
command that names another completion check names no event of the part and changes nothing
(NOTES.md, assumption 1). -/
def State.checkArises (s : State) (code : Byte) : Bool :=
  !s.inReset && decide (s.engine.state = .running) && decide (s.engine.code = code)

/-- The completion check of a code, as one event. -/
def State.atCheck (s : State) (code : Byte) (check : State → State) : State :=
  if s.checkArises code then check s else s

/-! ## DEFINE (R11, R12) -/

/-- The entry a DEFINE makes (R12). -/
def definedEntry (c : TargetConfig) (generation : Byte) : Entry :=
  { life := .defined, segment := c.segment, address := c.address, mask := c.mask, base := c.base,
    length := c.length, fill := c.fill, wrap := c.wrap, sleep := c.sleep, pointer := 0,
    generation := generation, regions := [] }

/-- The completion check of DEFINE (R11, R12): the index, the state, the parameters, the image range. -/
def State.checkDefine (s : State) : State :=
  match indexOf s.engine.latched with
  | none => s.complete .badIndex
  | some k =>
    if (s.entry k).life ≠ .free then s.complete .badState
    else match targetConfig s.engine.latched with
      | none => s.complete .badParam
      | some c =>
        if s.rangeTaken c.base c.length then s.complete .overlap
        else
          let generation := (s.entry k).generation + 1
          ((s.setEntry k (definedEntry c generation)).writeResults 11 [generation]).complete .ok

/-- DEFINE. -/
def execDefine (s : State) : Answer := .next (s.atCheck codeDefine State.checkDefine)

/-! ## ENABLE (R13) -/

/-- The completion check of ENABLE (R13): the index, the state, the match sets. -/
def State.checkEnable (s : State) : State :=
  match indexOf s.engine.latched with
  | none => s.complete .badIndex
  | some k =>
    if (s.entry k).life ≠ .defined then s.complete .badState
    else if s.conflicts k then s.complete .conflict
    else (s.onEntry k fun e => { e with pointer := 0, life := .active }).complete .ok

/-- ENABLE. -/
def execEnable (s : State) : Answer := .next (s.atCheck codeEnable State.checkEnable)

/-! ## DISABLE (R14 to R18) -/

/-- A graceful DISABLE that has passed its checks (R15): it takes effect at once, or the entry is
CLOSING and the engine waits for its transaction. -/
def State.disableGracefully (s : State) (k : Fin 16) : State :=
  if s.entryBound k then
    (s.onEntry k (Entry.become .closing)).await (s.entry k).segment (.disable k)
  else (s.onEntry k (Entry.become .defined)).complete .ok

/-- A forced DISABLE that has passed its checks (R18): the entry is DEFINED, and a transaction bound to
it is abandoned. -/
def State.disableByForce (s : State) (k : Fin 16) : State :=
  let s' := s.onEntry k (Entry.become .defined)
  (if s.entryBound k then s'.abandon (s.entry k).segment .idle else s').complete .ok

/-- The completion check of DISABLE (R14): the index, the state, the mode. -/
def State.checkDisable (s : State) : State :=
  match indexOf s.engine.latched with
  | none => s.complete .badIndex
  | some k =>
    if (s.entry k).life ≠ .active then s.complete .badState
    else match disableModeOfCode s.engine.latched[1] with
      | none => s.complete .badParam
      | some .graceful => s.disableGracefully k
      | some .forced => s.disableByForce k

/-- DISABLE. -/
def execDisable (s : State) : Answer := .next (s.atCheck codeDisable State.checkDisable)

/-! ## RELEASE (R20) -/

/-- The completion check of RELEASE (R20): the index, the state. -/
def State.checkRelease (s : State) : State :=
  match indexOf s.engine.latched with
  | none => s.complete .badIndex
  | some k =>
    if (s.entry k).life ≠ .defined then s.complete .badState
    else (s.onEntry k Entry.release).complete .ok

/-- RELEASE. -/
def execRelease (s : State) : Answer := .next (s.atCheck codeRelease State.checkRelease)

/-! ## VT_QUERY (R21) -/

/-- Part 0 of a snapshot of entry `k` (R21, 8.8). For a FREE entry only the generation is not zero. -/
def State.snapshot (s : State) (k : Fin 16) : List Byte :=
  let e := s.entry k
  if e.life = .free then [0, 0, 0, 0, 0, 0, 0, 0, 0, 0, e.generation, 0]
  else
    [e.life.byte, segCode e.segment, e.address.setWidth 8, e.mask.setWidth 8,
     BitVec.ofNat 8 (e.base / 256), BitVec.ofNat 8 e.base, BitVec.ofNat 8 e.length, e.fill,
     e.flagsByte, e.pointer, e.generation, bitAt 0 (s.entryBound k)]

/-- The three bytes of one region in part 1 (8.8). -/
def Region.bytes (r : Region) : List Byte := [r.start, BitVec.ofNat 8 r.length, classCode r.cls]

/-- Part 1 of a snapshot: the region count, then the regions in order of start, then `$00` up to
position 12 (R21, 8.8). -/
def Entry.regionSnapshot (e : Entry) : List Byte :=
  BitVec.ofNat 8 e.regions.length
    :: ((e.regions.flatMap Region.bytes) ++ List.replicate 12 0).take 12

/-- The completion check of VT_QUERY (R21): the index, the part. -/
def State.checkVtQuery (s : State) : State :=
  match indexOf s.engine.latched with
  | none => s.complete .badIndex
  | some k =>
    if s.engine.latched[1] = 0x00 then (s.writeResults 0 (s.snapshot k)).complete .ok
    else if s.engine.latched[1] = 0x01 then
      (s.writeResults 0 (s.entry k).regionSnapshot).complete .ok
    else s.complete .badParam

/-- VT_QUERY. -/
def execVtQuery (s : State) : Answer := .next (s.atCheck codeVtQuery State.checkVtQuery)

end Sys2Proof.Machine
end

