-- ==== Sys2Proof/Machine/BusCommands.lean ====
section
/-! DEFINITION. The commands that come from the buses and from the Time Base: START to STRETCH_EXPIRY,
and SCL_EDGE. -/

namespace Sys2Proof.Machine

/-- START (R45, R52, R53, R61, R62). -/
def execStart (g : Seg) (s : State) : Answer := .next (s.startCondition g)

/-- STOP (R45, R53, R60, R62). -/
def execStop (g : Seg) (s : State) : Answer := .next (s.stopCondition g)

/-- ADDRESS_BYTE (R52). -/
def execAddressByte (g : Seg) (s : State) : Answer :=
  .next (if s.fallArises g .addressByte then s.completeAddress g else s)

/-- SUB_ADDRESS_BYTE (R54). -/
def execSubAddressByte (g : Seg) (s : State) : Answer :=
  .next (if s.fallArises g .subAddressByte then
    match (s.seg g).txn with
    | some t => s.completeSubAddress g t
    | none => s
  else s)

/-- WRITE_DATA_BYTE (R55, R56). -/
def execWriteDataByte (g : Seg) (s : State) : Answer :=
  .next (if s.fallArises g .writeDataByte then
    match (s.seg g).state with
    | .wData t => s.completeData g t
    | .wRefusing t => s.completeRefused g t
    | _ => s
  else s)

/-- WRITE_ACK_BIT (R55). -/
def execWriteAckBit (g : Seg) (sda : Bool) (s : State) : Answer :=
  .next (if s.riseArises g .writeAckBit then
    match (s.seg g).txn with
    | some t => s.takeWriteAck g t sda
    | none => s
  else s)

/-- BYTE_NEED (R57, R110). -/
def execByteNeed (g : Seg) (s : State) : Answer :=
  .next (if s.fallArises g .byteNeed then
    match (s.seg g).txn with
    | some t => s.takeByteNeed g t
    | none => s
  else s)

/-- MASTER_ACK_BIT (R58). -/
def execMasterAckBit (g : Seg) (sda : Bool) (s : State) : Answer :=
  .next (if s.riseArises g .masterAckBit then
    match (s.seg g).txn with
    | some t => s.takeMasterAck g t sda
    | none => s
  else s)

/-- TICK (R49): the tick reaches the timers of segment A and of segment B; no tick comes while RESET is
asserted (R183). The timers of one segment do not reach the other's, so the order is not seen. -/
def execTick (s : State) : Answer :=
  .next (if s.inReset then s else (s.tickSegment .A).tickSegment .B)

/-- ABANDON_TIMER_EXPIRY (R65): the last tick of its period reaches the abandon timer of the segment
before it reaches any other timer. With ticks still to come there is no expiry (R49). -/
def execAbandonTimerExpiry (g : Seg) (s : State) : Answer :=
  .next (match (s.seg g).abandonTimer with
    | some n => if !s.inReset && decide (n ≤ 1) then s.expireAbandon g else s
    | none => s)

/-- STRETCH_EXPIRY (R123): the last tick of its period reaches the stretch timer of the segment before
it reaches any other timer. With ticks still to come there is no expiry (R49). -/
def execStretchExpiry (g : Seg) (s : State) : Answer :=
  .next (match (s.seg g).state with
    | .rStretch t r => if !s.inReset && decide (r.remaining ≤ 1) then s.expireStretch g t r else s
    | _ => s)

/-- SCL_EDGE (R45, R46, R48, R65). -/
def execSclEdge (g : Seg) (edge : ClockEdge) (s : State) : Answer := .next (s.clockEdge g edge)

end Sys2Proof.Machine
end

