-- ==== Sys2Proof/Machine/DeviceCommands.lean ====
section
/-! DEFINITION. The completion checks of FLUSH, QUEUE_CONFIG, SEGMENT, CLEAR_COUNTERS, SLEEP, AWAKE,
REINIT and a code that names no command. -/

namespace Sys2Proof.Machine

/-! ## FLUSH (R104) -/

/-- Whether a record lies in the scope of a FLUSH. -/
def FlushScope.takes (scope : FlushScope) (r : QueuedRecord) : Bool :=
  match scope with
  | .all => true
  | .only g => r.body.segment == g

/-- Whether the head record lies in the scope. -/
def FlushScope.takesHead (scope : FlushScope) (records : List QueuedRecord) : Bool :=
  match records with
  | [] => false
  | r :: _ => scope.takes r

/-- The queue without the records in a scope (R104): their cells become free, and the data index returns
to 0 when the head was among them (R101). -/
def State.flushScope (s : State) (scope : FlushScope) : State :=
  let kept := s.queue.records.filter fun r => !scope.takes r
  let removed := s.queue.records.length - kept.length
  let index := if scope.takesHead s.queue.records then 0 else s.window.dataIndex
  { s with queue := { s.queue with records := kept }, pool := s.pool.release removed
           window := { s.window with dataIndex := index } }

/-- The completion check of FLUSH (R104). -/
def State.checkFlush (s : State) : State :=
  match flushScopeOfCode s.engine.latched[0] with
  | none => s.complete .badParam
  | some scope =>
    let removed := (s.queue.records.filter scope.takes).length
    ((s.flushScope scope).writeResults 1 [BitVec.ofNat 8 removed]).complete .ok

/-- FLUSH. -/
def execFlush (s : State) : Answer := .next (s.atCheck codeFlush State.checkFlush)

/-! ## QUEUE_CONFIG (R98) -/

/-- The completion check of QUEUE_CONFIG (R98). -/
def State.checkQueueConfig (s : State) : State :=
  let threshold := s.engine.latched[0].toNat
  if 1 ≤ threshold ∧ threshold ≤ Config.cellCount then
    (State.writeResults { s with queue := { s.queue with threshold := threshold } } 1
      [BitVec.ofNat 8 s.queue.records.length, s.queue.counter]).complete .ok
  else s.complete .badParam

/-- QUEUE_CONFIG. -/
def execQueueConfig (s : State) : Answer := .next (s.atCheck codeQueueConfig State.checkQueueConfig)

/-! ## SEGMENT (R67, R68) -/

/-- SEGMENT with power OFF (R67): a bound transaction is abandoned, the segment is OFF and holds the new
values. -/
def State.turnOff (s : State) (g : Seg) (c : SegConfig) : State :=
  (s.abandon g .off).onSeg g fun x => { (x.unbind .off) with config := c }

/-- SEGMENT with power ON on a segment that is not bound (R68): an OFF segment becomes IDLE, and any
other stays in its state. -/
def Segment.turnOn (c : SegConfig) (x : Segment) : Segment :=
  match x.state with
  | .off => { (x.unbind .idle) with config := c }
  | _ => { x with config := c }

/-- The completion check of SEGMENT (R67, R68). -/
def State.checkSegment (s : State) : State :=
  match segmentParams s.engine.latched with
  | none => s.complete .badParam
  | some (g, on, c) =>
    if on then
      if (s.seg g).bound then s.await g (.segment c)
      else (s.onSeg g (Segment.turnOn c)).complete .ok
    else (s.turnOff g c).complete .ok

/-- SEGMENT. -/
def execSegment (s : State) : Answer := .next (s.atCheck codeSegment State.checkSegment)

/-! ## CLEAR_COUNTERS (R70) -/

/-- The completion check of CLEAR_COUNTERS (R70). -/
def State.checkClearCounters (s : State) : State :=
  match counterScopeOfCode s.engine.latched[0] with
  | none => s.complete .badParam
  | some (a, b) =>
    let s' := if a then s.onSeg .A (Segment.count fun _ => Counters.zero) else s
    (if b then s'.onSeg .B (Segment.count fun _ => Counters.zero) else s').complete .ok

/-- CLEAR_COUNTERS. -/
def execClearCounters (s : State) : Answer :=
  .next (s.atCheck codeClearCounters State.checkClearCounters)

/-! ## SLEEP and AWAKE (R164, R165) -/

/-- The host state becomes `h` (R163). -/
def State.setHost (s : State) (h : HostState) : State := { s with events := s.events.setHost h }

/-- SLEEP (R164): the host state becomes ASLEEP and COMMAND_DONE is posted, with WAKE judged by R162.
DESIGN CHOICE: R166 says that a SLEEP and a clear leave WAKE at one level in both orders. Where the clear
names a wake-enabled COMMAND_DONE, R158, R159 and R162 give two levels (low where the SLEEP is first, high
where the clear is), and the model follows those (notes/assumptions/24.md). -/
def execSleep (s : State) : Answer :=
  .next (s.atCheck codeSleep fun s => (s.setHost .asleep).complete .ok)

/-- AWAKE (R165). -/
def execAwake (s : State) : Answer :=
  .next (s.atCheck codeAwake fun s => (s.setHost .awake).complete .ok)

/-! ## REINIT (R154) -/

/-- Step 2 of R154: every block at its REINIT state. Image bytes, generations, the parameter area, the
held code, the latched parameters and COLLISION keep their values (R24, R44, R154), and the lines
are the board's. -/
def State.reinitBlocks (s : State) : State :=
  { s with
    segA := Segment.reset
    segB := Segment.reset
    vtt := Vector.ofFn fun k : Fin 16 => Entry.freeWith (s.entry k).generation
    pool := Pool.reset
    queue := InboundQueue.reset
    dru := ReadUnit.reset
    events := s.events.reinitEnables
    window := { s.window with page := 0, dataIndex := 0 } }

/-- The completion check of REINIT, its four steps in order (R154, R168). -/
def State.checkReinit (s : State) : State :=
  let abandoned := (s.abandon .A .off).abandon .B .off
  let blocks := abandoned.reinitBlocks
  State.complete { blocks with events := blocks.events.clearAll } .ok

/-- REINIT. -/
def execReinit (s : State) : Answer := .next (s.atCheck codeReinit State.checkReinit)

/-! ## A code that names no command (R143) -/

/-- UNKNOWN: the completion check of a held code that is not among the codes of 8.8. -/
def execUnknown (s : State) : Answer :=
  .next (if s.engine.code ∈ commandCodes then s
         else s.atCheck s.engine.code fun s => s.complete .unknown)

end Sys2Proof.Machine
end

