-- ==== Sys2Proof/Machine/ImageCommands.lean ====
section
/-! DEFINITION. The completion checks of REGIONS, IMAGE_PUT and IMAGE_GET (3.5 to 3.7). -/

namespace Sys2Proof.Machine

/-- The completion check of REGIONS (R35 to R37): the index, the state, the list; then it takes effect
at once, or waits for the transaction of an ACTIVE and bound entry. -/
def State.checkRegions (s : State) : State :=
  match indexOf s.engine.latched with
  | none => s.complete .badIndex
  | some k =>
    if (s.entry k).life ≠ .defined ∧ (s.entry k).life ≠ .active then s.complete .badState
    else match regionList s.engine.latched with
      | none => s.complete .badParam
      | some l =>
        if validRegions (s.entry k).length l = false then s.complete .badParam
        else if (s.entry k).life = .active ∧ s.entryBound k = true then
          s.await (s.entry k).segment (.regions k l)
        else (s.setRegions k l).complete .ok

/-- REGIONS. -/
def execRegions (s : State) : Answer := .next (s.atCheck codeRegions State.checkRegions)

/-- The completion check of IMAGE_PUT (R39 to R41): the index, the state, the parameters; with ATOMIC on
a bound entry it waits, otherwise its bytes are written at once. -/
def State.checkImagePut (s : State) : State :=
  let p := s.engine.latched
  match indexOf p with
  | none => s.complete .badIndex
  | some k =>
    if (s.entry k).life = .free then s.complete .badState
    else match atomicOfCode p[3] with
      | none => s.complete .badParam
      | some atomic =>
        if 1 ≤ p[2].toNat ∧ p[2].toNat ≤ 12 ∧ p[1].toNat + p[2].toNat ≤ (s.entry k).length then
          if atomic = true ∧ s.entryBound k = true then
            s.await (s.entry k).segment (.imagePut k p[1] (putBytes p))
          else (s.putImage k p[1] (putBytes p)).complete .ok
        else s.complete .badParam

/-- IMAGE_PUT. -/
def execImagePut (s : State) : Answer := .next (s.atCheck codeImagePut State.checkImagePut)

/-- The completion check of IMAGE_GET (R42): the index, the state, the parameters; then the bytes are
copied into positions 0 to count - 1. -/
def State.checkImageGet (s : State) : State :=
  let p := s.engine.latched
  match indexOf p with
  | none => s.complete .badIndex
  | some k =>
    if (s.entry k).life = .free then s.complete .badState
    else if 1 ≤ p[2].toNat ∧ p[2].toNat ≤ 16 ∧ p[1].toNat + p[2].toNat ≤ (s.entry k).length then
      (s.writeResults 0
        (Memory.readAll s.image ((s.entry k).base + p[1].toNat) p[2].toNat)).complete .ok
    else s.complete .badParam

/-- IMAGE_GET. -/
def execImageGet (s : State) : Answer := .next (s.atCheck codeImageGet State.checkImageGet)

end Sys2Proof.Machine
end

