-- ==== Sys2Proof/Machine/Window.lean ====
section
/-! DEFINITION. The host window: what a read of each of the 32 locations returns and what a write to
each does (10.2 to 10.4, 10.7). A host access reaches its location's owner directly, in every state
of the Command Engine (R149, R174). -/

namespace Sys2Proof.Machine

/-! ## Writes -/

/-- A write to CMD (R136, R138): an issue in IDLE, a collision otherwise. -/
def Engine.issue (code : Byte) (e : Engine) : Engine :=
  match e.state with
  | .idle => { e with state := .running, code := code, latched := e.params }
  | .running => { e with collision := true }
  | .waiting _ _ => { e with collision := true }

/-- A write to CMD_STATUS: 1 at the COLLISION position, bit 2, clears COLLISION (R138, 10.7). -/
def Engine.writeStatus (value : Byte) (e : Engine) : Engine :=
  if value.getLsbD 2 then { e with collision := false } else e

/-- A write to PAGE: 0..3 selects a page, other values are disregarded (R175). -/
def Window.writePage (value : Byte) (w : Window) : Window :=
  if h : value.toNat < 4 then { w with page := ⟨value.toNat, h⟩ } else w

/-- A write to QUEUE_DEPTH: 1 at the EMPTY_POP position, bit 7, clears EMPTY_POP (R103, 10.7). -/
def InboundQueue.writeDepth (value : Byte) (q : InboundQueue) : InboundQueue :=
  if value.getLsbD 7 then { q with emptyPop := false } else q

/-- A write to the data index position: the written value, or 16 for a value above 16 (R100). -/
def Window.writeIndex (value : Byte) (w : Window) : Window :=
  { w with dataIndex := min value.toNat Config.maxDataIndex }

/-- A write to POP (R102, R103): the head record leaves the queue, its cell becomes free and the data
index returns to 0; on an empty queue EMPTY_POP is set. -/
def State.popHead (s : State) : State :=
  match s.queue.records with
  | [] => { s with queue := { s.queue with emptyPop := true } }
  | _ :: rest =>
    { s with queue := { s.queue with records := rest }, pool := s.pool.release 1
             window := { s.window with dataIndex := 0 } }

/-- The entry a withdrawn command had made CLOSING returns to ACTIVE (R17, R147). -/
def State.withdraw (s : State) : Held → State
  | .disable k => s.onEntry k (Entry.become .active)
  | .regions _ _ => s
  | .imagePut _ _ _ => s
  | .segment _ => s

/-- A write to ABORT (R147): a WAITING command completes ABORTED; otherwise it is disregarded. -/
def State.abortCommand (s : State) : State :=
  match s.engine.state with
  | .waiting _ h => (s.withdraw h).complete .aborted
  | .idle => s
  | .running => s

/-- A write to ANSWER_CTRL (R117, R118): COMMIT is `$01`, CLEAR is `$02`, another value is
disregarded. -/
def State.writeAnswerControl (s : State) (value : Byte) : State :=
  if value = 0x01 then s.commitAnswer
  else if value = 0x02 then { s with dru := s.dru.emptyStaging }
  else s

/-- A write to position `n` of the upper half (R176): on page 0 it sets the parameter position, on page
1 it sets the data index at position 11, and elsewhere it is disregarded. -/
def State.writeUpper (s : State) (n : Nat) (value : Byte) : State :=
  match s.window.page with
  | 0 => { s with engine := { s.engine with params := s.engine.params.put n value } }
  | 1 => if n = 11 then { s with window := s.window.writeIndex value } else s
  | 2 => s
  | 3 => s

/-- The part stops driving D7 to D0: the read access under way, if there is one, has ended (R169). -/
def State.endRead (s : State) : State := { s with window := { s.window with dataOut := none } }

/-- What the owner of a location does with a written value (R171, R174, R176). -/
def State.takeWrite (s : State) (location : Location) (value : Byte) : State :=
  match location.toNat with
  | 0x00 => { s with engine := s.engine.issue value }
  | 0x01 => { s with engine := s.engine.writeStatus value }
  | 0x02 => { s with window := s.window.writePage value }
  | 0x03 => s
  | 0x04 => { s with events := s.events.clearPending .first value }
  | 0x05 => { s with events := s.events.clearPending .second value }
  | 0x06 => { s with events := s.events.writeIntEnable .first value }
  | 0x07 => { s with events := s.events.writeIntEnable .second value }
  | 0x08 => { s with events := s.events.writeWakeEnable .first value }
  | 0x09 => { s with events := s.events.writeWakeEnable .second value }
  | 0x0A => { s with queue := s.queue.writeDepth value }
  | 0x0B => s.abortCommand
  | 0x0C => { s with dru := { s.dru with answerSeq := value } }
  | 0x0D => { s with dru := s.dru.stage value }
  | 0x0E => s.writeAnswerControl value
  | 0x0F => s.popHead
  | n => s.writeUpper (n - 0x10) value

/-- A write access at a location (R171), disregarded while RESET is asserted (R183). The host bus carries
one access at a time (R173), so a read access before it has ended. -/
def State.hostWrite (s : State) (location : Location) (value : Byte) : State :=
  if s.inReset then s else s.endRead.takeWrite location value

/-- A write access that the part disregards (R172, R181): it reaches no owner, and a read access before or
beside it drives D7 to D0 no longer. -/
def State.hostWriteDisregarded (s : State) : State := if s.inReset then s else s.endRead

/-- The location of upper position `n` (R176). -/
def upperLocation (n : Fin 16) : Location := BitVec.ofNat 5 (16 + n.val)

/-- The location of one half of a pair of flag locations whose first is `first`. -/
def halfLocation (first : Location) : FlagHalf → Location
  | .first => first
  | .second => first + 1

/-! ## Reads -/

/-- The record view of the head (R99, R100, 10.7), by position; while the queue is empty every item but
the data index reads `$00`. -/
def State.readRecordView (s : State) (n : Nat) : Byte :=
  if n = 11 then BitVec.ofNat 8 s.window.dataIndex
  else match s.queue.records with
    | [] => 0
    | r :: _ =>
      match n with
      | 0 => 1
      | 1 => segCode r.body.segment
      | 2 => r.cause.byte
      | 3 => BitVec.ofNat 8 r.body.target.val
      | 4 => r.body.generation
      | 5 => r.body.address.setWidth 8
      | 6 => r.body.start
      | 7 => BitVec.ofNat 8 r.body.data.length
      | 8 => r.body.flagsByte
      | 9 => r.number
      | 10 => r.body.data.getD s.window.dataIndex 0
      | _ => 0

/-- The request view of one segment (R114, R179, 10.7), by position 0 to 6. -/
def Segment.readRequestView (x : Segment) (n : Nat) : Byte :=
  match n with
  | 0 => bitAt 0 x.state.request.isSome ||| bitAt 1 x.expiryMemory.isSome
  | 5 => x.expiryMemory.getD 0
  | _ =>
    match x.state.request with
    | none => 0
    | some r =>
      match n with
      | 1 => r.sequence
      | 2 => BitVec.ofNat 8 r.target.val
      | 3 => r.sub
      | 4 => r.position
      | 6 => BitVec.ofNat 8 r.remaining
      | _ => 0

/-- The counters of one segment (R180, 10.7), by position 0 to 4. -/
def Counters.read (c : Counters) (n : Nat) : Byte :=
  match n with
  | 0 => c.abandoned
  | 1 => c.broken
  | 2 => c.expired
  | 3 => c.refusedBytes
  | 4 => c.filledAsleep
  | _ => 0

/-- A read of position `n` of the upper half (R176 to R181). -/
def State.readUpper (s : State) (n : Nat) : Byte :=
  match s.window.page with
  | 0 => if h : n < 16 then s.engine.params[n] else 0
  | 1 => s.readRecordView n
  | 2 =>
    if n < 7 then s.segA.readRequestView n
    else if n < 14 then s.segB.readRequestView (n - 7)
    else if n = 14 then s.dru.stagingByte
    else 0
  | 3 => if n < 8 then s.segA.counters.read n else s.segB.counters.read (n - 8)

/-- The value a read access at a location returns (R170, R174, R176, 10.7). -/
def State.hostRead (s : State) (location : Location) : Byte :=
  match location.toNat with
  | 0x00 => s.engine.code
  | 0x01 => s.engine.statusByte
  | 0x02 => BitVec.ofNat 8 s.window.page.val
  | 0x03 => s.events.host.byte
  | 0x04 => halfOf s.events.pending .first
  | 0x05 => halfOf s.events.pending .second
  | 0x06 => halfOf s.events.intEnable .first
  | 0x07 => halfOf s.events.intEnable .second
  | 0x08 => halfOf s.events.wakeEnable .first
  | 0x09 => halfOf s.events.wakeEnable .second
  | 0x0A => s.queue.depthByte
  | 0x0B => 0
  | 0x0C => s.dru.answerSeq
  | 0x0D => 0
  | 0x0E => s.dru.lastOutcome.byte
  | 0x0F => 0
  | n => s.readUpper (n - 0x10)

/-- The side effect of a read: the location of the data port raises the data index while page 1 is
shown, up to 16 (R100, R170). -/
def State.readSideEffect (s : State) (location : Location) : State :=
  if location.toNat = 0x1A ∧ s.window.page = 1 ∧ s.window.dataIndex < Config.maxDataIndex then
    { s with window := { s.window with dataIndex := s.window.dataIndex + 1 } }
  else s

/-- The beginning of a read access (R170): the value is placed on D7 to D0, where it stays until the access
ends, and the side effect belongs to the same event. While RESET is asserted the access is disregarded
(R183). -/
def State.hostReadAccess (s : State) (location : Location) : State :=
  if s.inReset then s
  else
    let s' := s.readSideEffect location
    { s' with window := { s'.window with dataOut := some (s.hostRead location) } }

end Sys2Proof.Machine
end

