-- ==== Sys2Proof/Machine/WindowCommands.lean ====
section
/-! DEFINITION. The commands that are host accesses to the window, and RESET. Each access is an access
at its location (R169 to R171), so what an access to the upper half reaches follows PAGE (R176). -/

namespace Sys2Proof.Machine

/-- COMMAND_ISSUE (R136, R138): a write to CMD. -/
def execCommandIssue (code : Byte) (s : State) : Answer := .next (s.hostWrite 0x00 code)

/-- CLEAR_COLLISION (R138): a write to CMD_STATUS. -/
def execClearCollision (value : Byte) (s : State) : Answer := .next (s.hostWrite 0x01 value)

/-- PAGE_WRITE (R175): a write to PAGE. -/
def execPageWrite (value : Byte) (s : State) : Answer := .next (s.hostWrite 0x02 value)

/-- PENDING_CLEAR (R158): a write to a PENDING location. -/
def execPendingClear (half : FlagHalf) (value : Byte) (s : State) : Answer :=
  .next (s.hostWrite (halfLocation 0x04 half) value)

/-- INT_ENABLE_WRITE (R160): a write to an INT_ENABLE location. -/
def execIntEnableWrite (half : FlagHalf) (value : Byte) (s : State) : Answer :=
  .next (s.hostWrite (halfLocation 0x06 half) value)

/-- WAKE_ENABLE_WRITE (R160): a write to a WAKE_ENABLE location. -/
def execWakeEnableWrite (half : FlagHalf) (value : Byte) (s : State) : Answer :=
  .next (s.hostWrite (halfLocation 0x08 half) value)

/-- EMPTY_POP_CLEAR (R103): a write to QUEUE_DEPTH. -/
def execEmptyPopClear (value : Byte) (s : State) : Answer := .next (s.hostWrite 0x0A value)

/-- ABORT (R147): a write to ABORT, with any value. -/
def execAbort (value : Byte) (s : State) : Answer := .next (s.hostWrite 0x0B value)

/-- ANSWER_SEQ_WRITE (R115): a write to ANSWER_SEQ. -/
def execAnswerSeqWrite (value : Byte) (s : State) : Answer := .next (s.hostWrite 0x0C value)

/-- ANSWER_DATA_WRITE (R116): a write to ANSWER_DATA. -/
def execAnswerDataWrite (value : Byte) (s : State) : Answer := .next (s.hostWrite 0x0D value)

/-- COMMIT (R118): a write of the COMMIT code to ANSWER_CTRL. -/
def execCommit (s : State) : Answer := .next (s.hostWrite 0x0E 0x01)

/-- CLEAR (R117): a write of the CLEAR code to ANSWER_CTRL. -/
def execClear (s : State) : Answer := .next (s.hostWrite 0x0E 0x02)

/-- POP (R102): a write to POP, with any value. -/
def execPop (value : Byte) (s : State) : Answer := .next (s.hostWrite 0x0F value)

/-- PARAMETER_WRITE (R135, R177): a write to upper position `position`. -/
def execParameterWrite (position : Fin 16) (value : Byte) (s : State) : Answer :=
  .next (s.hostWrite (upperLocation position) value)

/-- DATA_INDEX_WRITE (R100, R178): a write to the location of the data index. -/
def execDataIndexWrite (value : Byte) (s : State) : Answer := .next (s.hostWrite 0x1B value)

/-- DATA_PORT_READ (R100, R170): a read access at the location of the data port, from its beginning, at
which it is taken. Its end, at which the part stops driving D7 to D0, is no row of the table (step, and
State.hostWrite). -/
def execDataPortRead (s : State) : Answer := .next (s.hostReadAccess 0x1A)

/-- DISREGARDED_WRITE (R172, R176, R181): a write the part disregards, since its location takes no such
write, or, at any location, since RD is asserted during it or its strobe is too short or too soon. -/
def execDisregardedWrite (_location : Location) (_value : Byte) (s : State) : Answer :=
  .next s.hostWriteDisregarded

/-! ## RESET (10.6) -/

/-- RESET_ASSERT (R183): every block at its hardware-reset state. The lines of the segments are the
board's, and the commands that wait stay in their queue. -/
def execResetAssert (s : State) : Answer :=
  .next { State.reset with
    inReset := true, linesA := s.linesA, linesB := s.linesB, pending := s.pending }

/-- RESET_RELEASE (R184): the part takes events again, from its hardware-reset state. -/
def execResetRelease (s : State) : Answer := .next { s with inReset := false }

end Sys2Proof.Machine
end

