-- ==== Sys2Proof/Machine/Dispatch.lean ====
section
/-! DEFINITION. The effect of every command on the part: one arm for each row of the table. -/

namespace Sys2Proof.Machine

/-- The effect of a command on everything but the queue of waiting commands. -/
def exec (i : Instr) (s : State) : Host.Outcome State Fault Refusal :=
  match i with
  | .start g => Sys2Proof.Machine.execStart g s
  | .stop g => Sys2Proof.Machine.execStop g s
  | .addressByte g => Sys2Proof.Machine.execAddressByte g s
  | .subAddressByte g => Sys2Proof.Machine.execSubAddressByte g s
  | .writeDataByte g => Sys2Proof.Machine.execWriteDataByte g s
  | .writeAckBit g sda => Sys2Proof.Machine.execWriteAckBit g sda s
  | .byteNeed g => Sys2Proof.Machine.execByteNeed g s
  | .masterAckBit g sda => Sys2Proof.Machine.execMasterAckBit g sda s
  | .tick => Sys2Proof.Machine.execTick s
  | .abandonTimerExpiry g => Sys2Proof.Machine.execAbandonTimerExpiry g s
  | .stretchExpiry g => Sys2Proof.Machine.execStretchExpiry g s
  | .commandIssue code => Sys2Proof.Machine.execCommandIssue code s
  | .define => Sys2Proof.Machine.execDefine s
  | .enable => Sys2Proof.Machine.execEnable s
  | .disable => Sys2Proof.Machine.execDisable s
  | .release => Sys2Proof.Machine.execRelease s
  | .vtQuery => Sys2Proof.Machine.execVtQuery s
  | .regions => Sys2Proof.Machine.execRegions s
  | .imagePut => Sys2Proof.Machine.execImagePut s
  | .imageGet => Sys2Proof.Machine.execImageGet s
  | .flush => Sys2Proof.Machine.execFlush s
  | .queueConfig => Sys2Proof.Machine.execQueueConfig s
  | .segment => Sys2Proof.Machine.execSegment s
  | .clearCounters => Sys2Proof.Machine.execClearCounters s
  | .sleep => Sys2Proof.Machine.execSleep s
  | .awake => Sys2Proof.Machine.execAwake s
  | .reinit => Sys2Proof.Machine.execReinit s
  | .unknown => Sys2Proof.Machine.execUnknown s
  | .abort value => Sys2Proof.Machine.execAbort value s
  | .clearCollision value => Sys2Proof.Machine.execClearCollision value s
  | .parameterWrite position value => Sys2Proof.Machine.execParameterWrite position value s
  | .pageWrite value => Sys2Proof.Machine.execPageWrite value s
  | .pendingClear half value => Sys2Proof.Machine.execPendingClear half value s
  | .intEnableWrite half value => Sys2Proof.Machine.execIntEnableWrite half value s
  | .wakeEnableWrite half value => Sys2Proof.Machine.execWakeEnableWrite half value s
  | .emptyPopClear value => Sys2Proof.Machine.execEmptyPopClear value s
  | .pop value => Sys2Proof.Machine.execPop value s
  | .dataPortRead => Sys2Proof.Machine.execDataPortRead s
  | .dataIndexWrite value => Sys2Proof.Machine.execDataIndexWrite value s
  | .answerSeqWrite value => Sys2Proof.Machine.execAnswerSeqWrite value s
  | .answerDataWrite value => Sys2Proof.Machine.execAnswerDataWrite value s
  | .commit => Sys2Proof.Machine.execCommit s
  | .clear => Sys2Proof.Machine.execClear s
  | .disregardedWrite location value => Sys2Proof.Machine.execDisregardedWrite location value s
  | .resetAssert => Sys2Proof.Machine.execResetAssert s
  | .resetRelease => Sys2Proof.Machine.execResetRelease s
  | .sclEdge g edge => Sys2Proof.Machine.execSclEdge g edge s

end Sys2Proof.Machine
end

