-- ==== Sys2Proof/Machine/Step.lean ====
section
/-! DEFINITION. One step: the command at the front of the queue is taken. -/

namespace Sys2Proof.Machine

/-- One step of the part: the command at the front of the queue is taken out and has its effect; with
no command waiting the part idles, and a read access under way ends (R169). DESIGN CHOICE: the end of a
read access has no row of its own (notes/assumptions/7.md). -/
def step (s : State) : Host.Outcome State Fault Refusal :=
  match s.pending with
  | [] => .next s.endRead
  | c :: rest => exec c { s with pending := rest }

/-- The state with the command a word spells, if it spells one, put at the front of the queue. -/
def State.withFetchWord (s : State) (nbits w : Nat) : State :=
  match decodeTableWord nbits w with
  | some c => { s with pending := c :: s.pending }
  | none => s

end Sys2Proof.Machine
end

