-- ==== Sys2Proof/Safety.lean ====
section
/-! DEFINITION. What a good state of the part is: the laws the book says its blocks keep, each as a
predicate of one state, in the terms the statements use. -/

namespace Sys2Proof.Safety

open Sys2Proof.Machine

/-- INT is asserted exactly while some pending kind is interrupt-enabled, and WAKE exactly while the
host is ASLEEP and some pending kind is wake-enabled (R161, R162). -/
def OutputsJudged (s : State) : Prop :=
  (s.events.intLow = true ↔ ∃ n, s.events.pending.getLsbD n = true ∧ s.events.intEnable.getLsbD n = true)
  ∧ (s.events.wakeHigh = true ↔ s.events.host = .asleep
      ∧ ∃ n, s.events.pending.getLsbD n = true ∧ s.events.wakeEnable.getLsbD n = true)

/-- The number of open records a segment holds. -/
def openRecords (x : Segment) : Nat :=
  match x.txn with
  | some t => t.records.length
  | none => 0

/-- Every cell is free, reserved or queued: the three counts make 32, a segment's reserved cells are
its open records, and there are none while it is not bound (R75, R76). -/
def CellsAccounted (s : State) : Prop :=
  s.pool.free + s.pool.reservedA + s.pool.reservedB + s.queue.records.length = Config.cellCount
  ∧ s.pool.reservedA = openRecords s.segA ∧ s.pool.reservedB = openRecords s.segB

/-- No two queued records carry the same number, and the record counter holds a number that none of
them carries (R94, R95). -/
def NumbersDistinct (s : State) : Prop :=
  s.queue.numbers.Nodup ∧ s.queue.counter ∉ s.queue.numbers

/-- Image memory is in its canonical form. -/
def ImageCanonical (s : State) : Prop := Memory.wf s.image = true

/-- A segment's configuration lies in the ranges of R67. -/
def ConfigInRange (c : SegConfig) : Prop :=
  c.stretch ≠ 0 ∧ c.abandon ≠ 0 ∧ 1 ≤ c.quota.toNat ∧ c.quota.toNat ≤ Config.cellCount

/-- A region list is sorted by start, pairwise disjoint and within an image length, with at most four
regions (R26). -/
def RegionsInOrder (length : Nat) (l : List Region) : Prop :=
  l.length ≤ Config.maxRegions ∧ l.Pairwise (fun r q => r.start.toNat ≤ q.start.toNat)
  ∧ validRegions length l = true

/-- One entry by itself: a non-FREE entry has an image of 1 to 256 bytes inside image memory (R10), a
match set without a reserved address (R4) and a region list in order (R26); a FREE one holds no
configuration (R5). -/
def EntryLaw (e : Entry) : Prop :=
  (e.life = .free → e = Entry.freeWith e.generation)
  ∧ (e.life ≠ .free →
      1 ≤ e.length ∧ e.length ≤ 256 ∧ e.base + e.length ≤ Config.imageBytes
      ∧ hasReserved e.address e.mask = false ∧ RegionsInOrder e.length e.regions)

/-- Two entries beside each other: the image ranges of two non-FREE entries share no offset (R10), and
two entries of one segment that are ACTIVE or CLOSING have match sets that do not overlap (R4). -/
def EntriesApart (e d : Entry) : Prop :=
  (e.life ≠ .free → d.life ≠ .free → rangesShare e.base e.length d.base d.length = false)
  ∧ (e.onBus = true → d.onBus = true → e.segment = d.segment →
      matchSetsOverlap e.address e.mask d.address d.mask = false)

/-- The Virtual Target Table keeps its laws (R4, R10, R26). -/
def TableLawful (s : State) : Prop :=
  (∀ k, EntryLaw (s.entry k)) ∧ ∀ j k, j ≠ k → EntriesApart (s.entry j) (s.entry k)

/-- A bound target is ACTIVE or CLOSING and belongs to the segment it is bound on (R51). -/
def BindingsLawful (s : State) : Prop :=
  ∀ g t, (s.seg g).txn = some t →
    (s.entry t.target).onBus = true ∧ (s.entry t.target).segment = g

/-- What the held values of a WAITING command promise about the transaction it awaits (R144, R145). -/
def HeldLawful (s : State) (t : Txn) : Held → Prop
  | .disable k => t.target = k ∧ (s.entry k).life = .closing
  | .regions k l =>
    t.target = k ∧ (s.entry k).life = .active ∧ l.length ≤ Config.maxRegions
    ∧ validRegions (s.entry k).length l = true
  | .imagePut k offset bytes =>
    t.target = k ∧ (s.entry k).life = .active
    ∧ offset.toNat + bytes.length ≤ (s.entry k).length
  | .segment c => ConfigInRange c ∧ (s.entry t.target).life = .active

/-- A WAITING command awaits a bound transaction (R134), and an entry is CLOSING exactly while a
graceful DISABLE on it waits (R9, 2.4). -/
def WaitingLawful (s : State) : Prop :=
  (∀ g h, s.engine.state = .waiting g h → ∃ t, (s.seg g).txn = some t ∧ HeldLawful s t h)
  ∧ ∀ k, (s.entry k).life = .closing →
      s.engine.state = .waiting (s.entry k).segment (.disable k)

/-- The configuration of both segments lies in its ranges (R67), and neither holds more cells reserved
than its quota (R76). -/
def QuotasKept (s : State) : Prop :=
  ∀ g, ConfigInRange (s.seg g).config ∧ s.pool.reserved g ≤ (s.seg g).config.quota.toNat

/-- One segment by itself: it holds SCL low exactly in R_STRETCH (R59); its abandon timer runs exactly
while it is bound and not in R_STRETCH (R65); and in R_STRETCH its stretch timer has ticks left, and
its expiry memory and read-ahead are empty (R110, R112, R179). -/
def SegmentLaw (x : Segment) : Prop :=
  (x.sclLow = true ↔ x.state.request.isSome = true)
  ∧ (x.abandonTimer.isSome = true ↔ x.bound = true ∧ x.state.request.isNone = true)
  ∧ (∀ n, x.abandonTimer = some n → 1 ≤ n)
  ∧ ∀ t r, x.state = .rStretch t r →
      1 ≤ r.remaining ∧ r.remaining ≤ 255 ∧ x.expiryMemory = none ∧ t.ahead.bytes = []

/-- Both segments keep the law of one segment, and two outstanding requests carry different sequence
numbers (R114). -/
def SegmentsLawful (s : State) : Prop :=
  SegmentLaw s.segA ∧ SegmentLaw s.segB
  ∧ ∀ r q, s.segA.state.request = some r → s.segB.state.request = some q → r.sequence ≠ q.sequence

/-- Where a segment stands in a byte fits its state and the level `scl` of its clock (R46): the bits of
an address, sub-address or write byte, or of a byte being sent, number at most eight, the eighth with
SCL high; an acknowledge clock has SCL low before its ninth rising edge and high after it and belongs to
a byte that state can follow; and SCL is low in R_STRETCH (R59). -/
def ClockInStep (scl : Bool) (x : Segment) : Prop :=
  let inByte (before : AckKind → Bool) : Prop :=
    match x.clock with
    | .bits n => n ≤ 8 ∧ (n = 8 → scl = true)
    | .ack k ninth => before k = true ∧ scl = ninth
  match x.state with
  | .off => True
  | .idle => True
  | .ignore => True
  | .rDone _ => True
  | .address => inByte fun _ => false
  | .wSubaddr _ => inByte (· == .address)
  | .wData _ => inByte fun k => k == .subAddress || k == .dataAcked
  | .wRefusing _ => inByte (· == .dataRefused)
  | .rData _ =>
    match x.clock with
    | .bits n => n ≤ 8 ∧ (n = 8 → scl = true)
    | .ack k ninth => (k = .address ∨ k = .transmitted) ∧ scl = ninth
  | .rStretch _ _ => scl = false

/-- Both segments stand in their bytes as their states and clocks allow. -/
def ClocksInStep (s : State) : Prop := ∀ g, ClockInStep (s.lines g).scl (s.seg g)

/-- The window's data index, the staging list, the depth and the threshold lie in their ranges (R96, R98,
R100, R116), and a staging list marked OVERLONG is full (R116). -/
def CountsInRange (s : State) : Prop :=
  s.window.dataIndex ≤ Config.maxDataIndex ∧ s.dru.staging.length ≤ Config.stagingBytes
  ∧ s.queue.records.length ≤ Config.cellCount
  ∧ 1 ≤ s.queue.threshold ∧ s.queue.threshold ≤ Config.cellCount
  ∧ (s.dru.overlong = true → s.dru.staging.length = Config.stagingBytes)

/-- A record holds 1 to 16 data bytes, and none of them lies beyond sub-address 255 (R73, R80). -/
def RecordLaw (r : OpenRecord) : Prop :=
  1 ≤ r.data.length ∧ r.data.length ≤ Config.cellBytes ∧ r.start.toNat + r.data.length ≤ 256

/-- Every record, queued or open, keeps the law of a record. -/
def RecordsLawful (s : State) : Prop :=
  (∀ q ∈ s.queue.records, RecordLaw q.body)
  ∧ ∀ g t, (s.seg g).txn = some t → ∀ r ∈ t.records, RecordLaw r

/-- The part as it is while RESET is asserted (R183): every block in its hardware-reset state. -/
def HeldInReset (s : State) : Prop :=
  s = { State.reset with
    inReset := true, linesA := s.linesA, linesB := s.linesB, pending := s.pending }

/-- A state in which every law holds. -/
def Lawful (s : State) : Prop :=
  OutputsJudged s ∧ CellsAccounted s ∧ NumbersDistinct s ∧ ImageCanonical s ∧ TableLawful s
  ∧ BindingsLawful s ∧ WaitingLawful s ∧ QuotasKept s ∧ SegmentsLawful s ∧ ClocksInStep s ∧ CountsInRange s
  ∧ RecordsLawful s
  ∧ (s.inReset = true → HeldInReset s)

/-! ## The terms of the statements -/

/-- The engine holds a command with this code, RUNNING, and the part takes events (R139). -/
def Running (s : State) (code : Byte) : Prop :=
  s.inReset = false ∧ s.engine.state = .running ∧ s.engine.code = code

/-- The eighth bit of a byte has been sampled on segment `g` and SCL is high, so that its next edge
completes the byte (R46). -/
def ByteSampled (s : State) (g : Seg) : Prop :=
  s.inReset = false ∧ (s.lines g).scl = true ∧ (s.seg g).clock = .bits 8

/-- SCL is low on segment `g`, not held there by the part, so that its next edge is a rising one. -/
def ClockLow (s : State) (g : Seg) : Prop :=
  s.inReset = false ∧ (s.lines g).scl = false ∧ (s.seg g).sclLow = false

/-- SCL is high on segment `g` and the part holds neither line, so that the other parties can make a
condition by moving SDA (R45, R47). -/
def ConditionPossible (s : State) (g : Seg) : Prop :=
  s.inReset = false ∧ (s.lines g).scl = true ∧ (s.seg g).sdaLow = false ∧ (s.seg g).sclLow = false

/-- The address `x` lies in the match set of an address and a mask (1.6). -/
def InMatchSet (address mask x : BusAddress) : Prop := x &&& mask = address &&& mask

/-- The reserved address set (1.5). -/
def Reserved (x : BusAddress) : Prop := x.toNat ≤ 0x07 ∨ 0x78 ≤ x.toNat

/-- The offset `o` lies in an image range. -/
def InRange (base length o : Nat) : Prop := base ≤ o ∧ o < base + length

/-- The sub-address `p` lies in a region. -/
def InRegion (r : Region) (p : Nat) : Prop := r.start.toNat ≤ p ∧ p < r.start.toNat + r.length

/-- The number `w` is the value after `v` where the queue's records carry the numbers `used` (R95). -/
def IsValueAfter (used : List Byte) (v w : Byte) : Prop :=
  w ∉ used ∧ ∃ d : Nat, 1 ≤ d ∧ d ≤ 256 ∧ w = v + BitVec.ofNat 8 d
    ∧ ∀ e : Nat, 1 ≤ e → e < d → v + BitVec.ofNat 8 e ∈ used

/-- A segment with no transaction, in state `after`: both lines released, no byte under way and the
abandon timer stopped; its configuration, counters and expiry memory stay (R63, R64). -/
def unbound (after : SegState) (x : Segment) : Segment :=
  { x with state := after, clock := .bits 0, sdaLow := false, sclLow := false, abandonTimer := none }

/-- A segment whose abandon timer has been started or restarted with its full period (R65). -/
def restarted (x : Segment) : Segment :=
  { x with abandonTimer := some (10 * x.config.abandon.toNat) }

/-- A segment that sends the byte `b` of transaction `t` from its first bit, with SCL released (R48). -/
def sendingByte (t : Txn) (b : Byte) (x : Segment) : Segment :=
  { x with state := .rData t, clock := .bits 0, sending := b, sdaLow := !b.getMsbD 0, sclLow := false }

/-- A segment whose running timer has one tick fewer left (R49). -/
def tickedDown (x : Segment) : Segment :=
  match x.state with
  | .rStretch t r => { x with state := .rStretch t { r with remaining := r.remaining - 1 } }
  | _ => { x with abandonTimer := x.abandonTimer.map (· - 1) }

/-- The expiry that the next tick brings on segment `g`, if it is the last of a running timer (R49). -/
def dueExpiry (g : Seg) (x : Segment) : Option Instr :=
  match x.state with
  | .rStretch _ r => if r.remaining = 1 then some (.stretchExpiry g) else none
  | _ => if x.abandonTimer = some 1 then some (.abandonTimerExpiry g) else none

/-- A transaction whose last open record has received CUT (R83). -/
def cut (t : Txn) : Txn :=
  { t with records := t.records.dropLast ++ t.records.getLast?.toList.map fun r => { r with cut := true } }

/-- The part with D7 to D0 undriven: no read access is under way (R169). -/
def undriven (s : State) : State := { s with window := { s.window with dataOut := none } }

/-- The lines of segment `g` with SCL fallen. -/
def sclFell (s : State) (g : Seg) : State := s.setLines g { scl := false, sda := (s.lines g).sda }

/-- The lines of segment `g` with SCL risen while the other parties leave SDA at `sda`. -/
def sclRose (s : State) (g : Seg) (sda : Bool) : State := s.setLines g { scl := true, sda := sda }

end Sys2Proof.Safety
end

