-- ==== Sys2Proof/Certificates/Slice0/Obligations.lean ====
section
/-! DEFINITION. The statements for the provers. A statement about a command gives the whole next state,
so that it is the command's result, its frame and its completion at once; what a shared operation named
in it does (`State.post`, `State.complete`, `State.endTransaction`, ...) is a statement of its own.

The terms of the statements (`Running`, `ByteSampled`, `ConditionPossible`, `unbound`, ...) are in
Safety.lean. -/

open Sys2Proof Sys2Proof.Machine Sys2Proof.Safety

/-! ## The step and reset -/

/-- A step takes the command at the front of the queue and runs it with the queue's rest; with no
command waiting the part idles, and a read access under way ends, so that D7 to D0 are undriven (R169). The
queue is the model's own (notes/assumptions/3.md), and that an empty one lets the read end its choice
(notes/assumptions/7.md). -/
def Obligations.StepTakesTheFrontCommand : Prop :=
  ∀ s : State,
    (∀ c rest, s.pending = c :: rest → step s = exec c { s with pending := rest })
    ∧ (s.pending = [] → step s = .next (undriven s))

/-- Every command answers a next state and leaves the queue as it found it. -/
def Obligations.EveryCommandLeavesTheQueue : Prop :=
  ∀ (c : Instr) (s : State), ∃ t, exec c s = .next t ∧ t.pending = s.pending

/-- Every law of Safety.lean holds right after reset. -/
def Obligations.ResetIsLawful : Prop := Lawful State.reset

/-- RESET asserted puts every block in its hardware-reset state (R23, R44, R71, R92, R107, R132, R153,
R167);
released, it leaves that state as it is and the part takes events. That the board's lines keep their levels
is the model's choice (notes/assumptions/5.md), and that a release leaves a part whose RESET is not
asserted as it is, is its reading (notes/assumptions/21.md). -/
def Obligations.ResetPutsEveryBlockInItsResetState : Prop :=
  ∀ s : State, ∃ t : State, exec .resetAssert s = .next t
    ∧ (∀ k, t.entry k = Entry.freeWith 0)
    ∧ (∀ a, Memory.read t.image a = 0)
    ∧ (∀ g, (t.seg g).state = .off ∧ (t.seg g).sdaLow = false ∧ (t.seg g).sclLow = false
        ∧ (t.seg g).abandonTimer = none ∧ (t.seg g).expiryMemory = none
        ∧ (t.seg g).config = { stretch := 50, abandon := 35, quota := 16 }
        ∧ (t.seg g).counters = Counters.zero)
    ∧ t.pool = { free := 32, reservedA := 0, reservedB := 0 }
    ∧ t.queue = { records := [], counter := 0, threshold := 24, emptyPop := false }
    ∧ t.dru = { sequenceCounter := 0, answerSeq := 0, staging := [], overlong := false,
                lastOutcome := .noRequest }
    ∧ t.engine.state = .idle ∧ t.engine.code = 0 ∧ t.engine.result = .ok ∧ t.engine.collision = false
    ∧ (∀ i : Fin 16, t.engine.params[i] = 0 ∧ t.engine.latched[i] = 0)
    ∧ t.events = { pending := 0, intEnable := 0, wakeEnable := 0, host := .awake, intLow := false,
                   wakeHigh := false }
    ∧ t.window.page = 0 ∧ t.window.dataIndex = 0
    ∧ t.inReset = true ∧ (∀ g, t.lines g = s.lines g)
    ∧ exec .resetRelease t = .next { t with inReset := false }
    ∧ exec .resetRelease s = .next { s with inReset := false }

/-- While RESET is asserted the part takes no event (R183): whatever command comes, short of the
release, everything but the board's lines stays as it was. -/
def Obligations.AssertedResetTakesNoEvent : Prop :=
  ∀ (s : State) (c : Instr), s.inReset = true → HeldInReset s → c ≠ .resetRelease →
    ∃ a b : Lines, exec c s = .next { s with linesA := a, linesB := b }

/-! ## What every step keeps -/

/-- INT and WAKE stand at the levels R161 and R162 give, after every step from a state in which they
do. -/
def Obligations.OutputsFollowTheirConditions : Prop :=
  ∀ s t : State, OutputsJudged s → step s = .next t → OutputsJudged t

/-- The law of the Cell Pool (R75, R76), the ranges of the counts (R96, R98, R100, R116) and the law of a
record (R73, R80) are kept by every step. -/
def Obligations.CellsStayAccountedFor : Prop :=
  ∀ s t : State, CellsAccounted s → CountsInRange s → RecordsLawful s → step s = .next t →
    CellsAccounted t ∧ CountsInRange t ∧ RecordsLawful t

/-- No step gives two queued records one number, or leaves the record counter at a number a queued
record carries (R94, R95). -/
def Obligations.RecordNumbersStayDistinct : Prop :=
  ∀ s t : State, CellsAccounted s → NumbersDistinct s → step s = .next t → NumbersDistinct t

/-- Image memory keeps its canonical form. -/
def Obligations.ImageStaysCanonical : Prop :=
  ∀ s t : State, ImageCanonical s → step s = .next t → ImageCanonical t

/-- The laws of the Virtual Target Table (R4, R10, R26), of binding (R51) and of the waiting command (R9,
R134) are kept together by every step. -/
def Obligations.TableStaysLawful : Prop :=
  ∀ s t : State, TableLawful s → BindingsLawful s → WaitingLawful s → step s = .next t →
    TableLawful t ∧ BindingsLawful t ∧ WaitingLawful t

/-- The laws of the segments (R59, R65, R110, R112, R114), and with them the ranges of their
configuration and their quotas (R67, R76), are kept by every step. -/
def Obligations.SegmentsStayLawful : Prop :=
  ∀ s t : State, SegmentsLawful s → QuotasKept s → CellsAccounted s → WaitingLawful s →
    step s = .next t → SegmentsLawful t ∧ QuotasKept t

/-- Each segment's place in its byte keeps fitting its state and its clock line (R46), and a part with
RESET asserted stays in its reset state (R183). -/
def Obligations.ClocksStayInStep : Prop :=
  ∀ s t : State, ClocksInStep s → (∀ g, SegmentLaw (s.seg g)) → (s.inReset = true → HeldInReset s) →
    step s = .next t → ClocksInStep t ∧ (t.inReset = true → HeldInReset t)

/-- No edge of SCL that the lines can make is lost: where the segments stand in step, each such edge is
exactly one row of the table. That row changes the line, and every other row of an edge of that kind changes
nothing. The rows as edges of the lines, and that an edge which is another row's changes nothing, are the
model's reading and choice (notes/assumptions/1.md and 2.md). -/
def Obligations.NoEdgeIsLost : Prop :=
  ∀ (s : State) (g : Seg), s.inReset = false → ClocksInStep s → (∀ h, SegmentLaw (s.seg h)) →
    let onlyOne (rows : List Instr) (after : Lines) : Prop := ∃ c ∈ rows,
      (∃ t, exec c s = .next t ∧ t.lines g = after) ∧ ∀ d ∈ rows, d ≠ c → exec d s = .next s
    (s.canRise g = true → ∀ sda,
      onlyOne [.writeAckBit g sda, .masterAckBit g sda, .sclEdge g (.rise sda)]
        { scl := true, sda := sda })
    ∧ (s.canFall g = true →
      onlyOne [.addressByte g, .subAddressByte g, .writeDataByte g, .byteNeed g, .sclEdge g .fall]
        { scl := false, sda := (s.lines g).sda })

/-! ## The Event Unit -/

/-- A posting sets the flag of its kind, which has the number of 9.1, and no other, changes no enable and no
host state, and INT and WAKE take the levels their conditions give in the same event (R156, R161, R162). -/
def Obligations.PostingSetsOneFlag : Prop :=
  ∀ (s : State) (k : EventKind),
    let number : Nat := match k with
      | .commandDone => 0
      | .queueArrival => 1
      | .queueLevel => 2
      | .poolRefusal => 3
      | .requestA => 4
      | .requestB => 5
      | .stretchExpired => 6
      | .deferredFilled => 7
      | .transactionAbandoned => 8
      | .framingBreak => 9
    ∃ e : Events, s.post k = { s with events := e }
      ∧ (∀ n : Nat, e.pending.getLsbD n = (s.events.pending.getLsbD n || n == number))
      ∧ e.intEnable = s.events.intEnable ∧ e.wakeEnable = s.events.wakeEnable
      ∧ e.host = s.events.host ∧ OutputsJudged (s.post k)

/-- The writes of the flag locations (R158, R160), for each of the ten kinds `n`: at the first location
of a pair bit `n` is kind `n`, at the second kind `n` is bit `n - 8`. A PENDING write clears the flags
written with 1; an enable write gives the location's flags the written values; the flags of the other
location stay. INT and WAKE are judged in the same event. A read shows the flags of its location at the same
positions, and 0 where it holds none (R157, R160). -/
def Obligations.FlagWritesReachTheirLocation : Prop :=
  ∀ (s : State) (half : FlagHalf) (value : Byte), s.inReset = false →
    let written (n : Nat) : Bool := match half with
      | .first => decide (n < 8) && value.getLsbD n
      | .second => decide (8 ≤ n) && value.getLsbD (n - 8)
    let here (n : Nat) : Bool := match half with
      | .first => decide (n < 8)
      | .second => decide (8 ≤ n)
    (∃ e, exec (.pendingClear half value) s = .next { undriven s with events := e }
      ∧ (∀ n < 10, e.pending.getLsbD n = (s.events.pending.getLsbD n && !written n))
      ∧ e.intEnable = s.events.intEnable ∧ e.wakeEnable = s.events.wakeEnable
      ∧ e.host = s.events.host ∧ OutputsJudged { s with events := e })
    ∧ (∃ e, exec (.intEnableWrite half value) s = .next { undriven s with events := e }
      ∧ (∀ n < 10, e.intEnable.getLsbD n = if here n then written n else s.events.intEnable.getLsbD n)
      ∧ e.pending = s.events.pending ∧ e.wakeEnable = s.events.wakeEnable
      ∧ e.host = s.events.host ∧ OutputsJudged { s with events := e })
    ∧ (∃ e, exec (.wakeEnableWrite half value) s = .next { undriven s with events := e }
      ∧ (∀ n < 10, e.wakeEnable.getLsbD n = if here n then written n else s.events.wakeEnable.getLsbD n)
      ∧ e.pending = s.events.pending ∧ e.intEnable = s.events.intEnable
      ∧ e.host = s.events.host ∧ OutputsJudged { s with events := e })
    ∧ ∀ n < 8,
      (s.hostRead 0x04).getLsbD n = s.events.pending.getLsbD n
      ∧ (s.hostRead 0x05).getLsbD n = s.events.pending.getLsbD (8 + n)
      ∧ (s.hostRead 0x06).getLsbD n = s.events.intEnable.getLsbD n
      ∧ (s.hostRead 0x07).getLsbD n = s.events.intEnable.getLsbD (8 + n)
      ∧ (s.hostRead 0x08).getLsbD n = s.events.wakeEnable.getLsbD n
      ∧ (s.hostRead 0x09).getLsbD n = s.events.wakeEnable.getLsbD (8 + n)

/-! ## The table: match sets, lookup, classification, pointer -/

/-- R3: two match sets overlap exactly when they share an address, and ENABLE's test compares an entry
with the ACTIVE and CLOSING entries of its own segment, and no other. -/
def Obligations.OverlapIsASharedAddress : Prop :=
  (∀ a m a' m' : BusAddress,
    (matchSetsOverlap a m a' m' = true ↔ ∃ x, InMatchSet a m x ∧ InMatchSet a' m' x)
    ∧ (matchSetsOverlap a m a' m' = true ↔
        ∀ n : Nat, m.getLsbD n = true → m'.getLsbD n = true → a.getLsbD n = a'.getLsbD n))
  ∧ ∀ (s : State) (k : Fin 16), s.conflicts k = true ↔
      ∃ j, ((s.entry j).life = .active ∨ (s.entry j).life = .closing)
        ∧ (s.entry j).segment = (s.entry k).segment
        ∧ ∃ x, InMatchSet (s.entry k).address (s.entry k).mask x
            ∧ InMatchSet (s.entry j).address (s.entry j).mask x

/-- DEFINE's test of R2 finds a match set to contain a reserved address exactly when one of its
addresses is reserved. -/
def Obligations.ReservedTestIsExact : Prop :=
  ∀ a m : BusAddress, hasReserved a m = true ↔ ∃ x, InMatchSet a m x ∧ Reserved x

/-- The classification of R27: out-of-image at or beyond the image length; otherwise the class of the one
region that covers the sub-address, wherever it stands in the list; otherwise unmapped. -/
def Obligations.ClassificationFollowsTheRegionList : Prop :=
  ∀ (e : Entry) (p : Byte), e.regions.Pairwise (fun r q => r.meets q = false) →
    (e.classify p = .outOfImage ↔ e.length ≤ p.toNat)
    ∧ (∀ c, e.classify p = .inRegion c ↔
        p.toNat < e.length ∧ ∃ r ∈ e.regions, InRegion r p.toNat ∧ r.cls = c)
    ∧ (e.classify p = .unmapped ↔ p.toNat < e.length ∧ ∀ r ∈ e.regions, ¬ InRegion r p.toNat)

/-- R33: one step of a pointer. Under WRAP it goes from image length - 1 to 0; otherwise, and under RUN
always, it goes one up with 255 followed by 0. Under WRAP a pointer inside the image stays inside it, and
for an image of 256 bytes the two modes agree. -/
def Obligations.PointerStepFollowsTheWrapMode : Prop :=
  ∀ e : Entry, 1 ≤ e.length → e.length ≤ 256 →
    (e.wrap = .wrap → e.pointer.toNat = e.length - 1 → e.nextPointer = 0)
    ∧ (e.wrap = .wrap → e.pointer.toNat ≠ e.length - 1 →
        e.nextPointer.toNat = (e.pointer.toNat + 1) % 256)
    ∧ (e.wrap = .run → e.nextPointer.toNat = (e.pointer.toNat + 1) % 256)
    ∧ (e.wrap = .wrap → e.pointer.toNat < e.length → e.nextPointer.toNat < e.length)
    ∧ (e.length = 256 → e.nextPointer.toNat = (e.pointer.toNat + 1) % 256)

/-- Image memory: bytes written from an offset on are read back there, and every other byte keeps its value
(R25). -/
def Obligations.WrittenBytesAreReadBack : Prop :=
  ∀ (m : List Host.Cell) (o : Nat) (bytes : List Byte), Memory.wf m = true →
    o + bytes.length ≤ 2048 → ∀ a, Memory.read (Memory.writeAll m o bytes) a =
        if o ≤ a ∧ a < o + bytes.length then bytes.getD (a - o) 0 else Memory.read m a

/-! ## Conditions and the end of a transaction -/

/-- START and STOP on a segment with no transaction (R45, R52, R53): from IDLE, ADDRESS or IGNORE a START
begins an address byte and a STOP leads to IDLE; an OFF segment recognises neither. No counter, event or
other state changes. That the lines are followed while the segment is OFF is the model's choice
(notes/assumptions/5.md). -/
def Obligations.UnboundSegmentTakesStartAndStop : Prop :=
  ∀ (s : State) (g : Seg), ConditionPossible s g → (s.seg g).abandonTimer = none →
    ((s.lines g).sda = true →
      ((s.seg g).state ∈ [SegState.idle, .address, .ignore] →
        exec (.start g) s = .next ((s.setLines g { scl := true, sda := false }).setSeg g
          { s.seg g with state := .address, clock := .bits 0 }))
      ∧ ((s.seg g).state = .off →
        exec (.start g) s = .next (s.setLines g { scl := true, sda := false })))
    ∧ ((s.lines g).sda = false →
      ((s.seg g).state ∈ [SegState.address, .ignore] →
        exec (.stop g) s = .next ((s.setLines g { scl := true, sda := true }).setSeg g
          { s.seg g with state := .idle, clock := .bits 0 }))
      ∧ ((s.seg g).state ∈ [SegState.off, .idle] →
        exec (.stop g) s = .next (s.setLines g { scl := true, sda := true })))

/-- START and STOP on a bound segment (R46, R60 to R62). At a byte boundary (no bit, or only an unsettled
first one, or an acknowledge clock, or R_DONE) the transaction ends with the condition's own cause.
Mid-byte it is a framing break: BROKEN rises, FRAMING_BREAK is posted and the cause is BROKEN. After a
START the segment is in ADDRESS, after a STOP in IDLE. -/
def Obligations.ConditionEndsTheTransaction : Prop :=
  ∀ (s : State) (g : Seg) (t : Txn), ConditionPossible s g → (s.seg g).txn = some t →
    (s.seg g).state.request = none →
    let done := (s.seg g).state = .rDone t
    let boundary := done ∨ (∃ n ≤ 1, (s.seg g).clock = .bits n) ∨ ∃ k b, (s.seg g).clock = .ack k b
    let midByte := ¬ done ∧ ∃ n, 2 ≤ n ∧ (s.seg g).clock = .bits n
    let broken (s : State) : State := State.post (s.setSeg g { s.seg g with counters :=
      { (s.seg g).counters with broken :=
          if (s.seg g).counters.broken = 255 then 255 else (s.seg g).counters.broken + 1 } }) .framingBreak
    ((s.lines g).sda = true →
      let s' := s.setLines g { scl := true, sda := false }
      (boundary → exec (.start g) s = .next (s'.endTransaction g t (.commit .repeatedStart) .address))
      ∧ (midByte → exec (.start g) s = .next ((broken s').endTransaction g t (.commit .broken) .address)))
    ∧ ((s.lines g).sda = false →
      let s' := s.setLines g { scl := true, sda := true }
      (boundary → exec (.stop g) s = .next (s'.endTransaction g t (.commit .stop) .idle))
      ∧ (midByte → exec (.stop g) s = .next ((broken s').endTransaction g t (.commit .broken) .idle)))

/-- The end of a transaction that no command waits for (R64, R85, R88): the segment unbinds; the open
records are handed to the queue, or, for ABANDONED, discarded with their cells freed. -/
def Obligations.EndUnbindsAndSettlesTheRecords : Prop :=
  ∀ (s : State) (g : Seg) (t : Txn) (after : SegState), (∀ h, s.engine.state ≠ .waiting g h) →
    let s' := s.setSeg g (unbound after (s.seg g))
    (∀ c, s.endTransaction g t (.commit c) after = s'.commitRecords g c t.records)
    ∧ s.endTransaction g t .abandoned after =
        { s' with pool := { s.pool with free := s.pool.free + s.pool.reserved g }.setReserved g 0 }

/-- The end of a transaction that a command waits for (R16, R37, R41, R68, R146): in the same event the
command takes the effect it holds and completes OK. -/
def Obligations.WaitingCommandTakesEffectAtTheEnd : Prop :=
  ∀ (s : State) (g : Seg) (t : Txn) (cause : EndCause) (after : SegState) (h : Held),
    s.engine.state = .waiting g h →
    let ended := State.endTransaction { s with engine := { s.engine with state := .idle } } g t cause after
    let back (u : State) : State := { u with engine := s.engine }
    s.endTransaction g t cause after = State.complete (match h with
      | .disable k => back (ended.setEntry k { ended.entry k with life := .defined })
      | .regions k l => back (ended.setEntry k { ended.entry k with regions := sortRegions l })
      | .imagePut k o bytes => back { ended with
          image := Memory.writeAll s.image ((s.entry k).base + o.toNat) bytes }
      | .segment c => back (ended.setSeg g { ended.seg g with config := c })) .ok

/-- A commit's records are numbered in turn (R85, R94, R95): they join the tail in their order with the
end cause, the first takes the counter's value, each next one the value after it, and the counter moves
to the value after the last. -/
def Obligations.CommittedRecordsAreNumberedInTurn : Prop :=
  ∀ (q : InboundQueue) (cause : CommitCause) (l : List OpenRecord), l ≠ [] →
    q.records.length + l.length ≤ 32 → ∃ ns : List Byte, ns.length = l.length
    ∧ (InboundQueue.pushAll cause q l).records = q.records
        ++ (l.zip ns).map (fun rn => { body := rn.1, cause := cause, number := rn.2 })
    ∧ ns.head? = some q.counter
    ∧ (∀ i m n, ns[i]? = some m → ns[i + 1]? = some n →
        IsValueAfter (q.numbers ++ ns.take (i + 1)) m n)
    ∧ (∀ n, ns.getLast? = some n →
        IsValueAfter (q.numbers ++ ns) n (InboundQueue.pushAll cause q l).counter)
    ∧ (InboundQueue.pushAll cause q l).threshold = q.threshold
    ∧ (InboundQueue.pushAll cause q l).emptyPop = q.emptyPop

/-- The commit of open records (R85, R87, R97, R101): the segment's reserved cells are queued; the data
index returns to 0 when the queue was empty; QUEUE_ARRIVAL is posted when it was empty and QUEUE_LEVEL
when the commit brings the depth from below the threshold to it or above. No open record commits
nothing. -/
def Obligations.CommitPostsArrivalAndLevel : Prop :=
  ∀ (s : State) (g : Seg) (cause : CommitCause) (l : List OpenRecord),
    let d := s.queue.records.length
    let s' := { s with pool := s.pool.setReserved g 0 }
    (l = [] → s.commitRecords g cause l = s')
    ∧ (l ≠ [] →
        let joined := { s' with
          queue := InboundQueue.pushAll cause s.queue l
          window := { s.window with dataIndex := if d = 0 then 0 else s.window.dataIndex } }
        let arrived := if d = 0 then joined.post .queueArrival else joined
        s.commitRecords g cause l =
          if d < s.queue.threshold ∧ s.queue.threshold ≤ d + l.length then arrived.post .queueLevel
          else arrived)

/-! ## Bytes a segment receives -/

/-- The completion of an address byte (R50, R52). Where an ACTIVE entry of the segment matches, the segment
binds to it, acknowledges, starts its abandon timer and passes to W_SUBADDR or R_DATA by the read/write
bit; otherwise it passes to IGNORE with SDA released. Nothing else changes. -/
def Obligations.AddressByteBindsOrIsRefused : Prop :=
  ∀ (s : State) (g : Seg), ByteSampled s g → (s.seg g).state = .address →
    (s.seg g).sdaLow = false → (s.seg g).sclLow = false → (s.seg g).abandonTimer = none →
    TableLawful s →
    let x := s.seg g
    let a : BusAddress := (x.shift >>> 1).setWidth 7
    let isMatch (k : Fin 16) : Prop := (s.entry k).life = .active ∧ (s.entry k).segment = g
      ∧ InMatchSet (s.entry k).address (s.entry k).mask a
    let context (k : Fin 16) (d : Direction) : Txn :=
      { target := k, direction := d, address := a, position := 0, records := [], unrecorded := false,
        ahead := { next := 0, bytes := [] }, expired := false }
    (∀ k, isMatch k → exec (.addressByte g) s = .next ((sclFell s g).setSeg g (restarted
        { x with
          state := if x.shift.getLsbD 0 then .rData (context k .read) else .wSubaddr (context k .write)
          clock := .ack .address false, sdaLow := true })))
    ∧ ((∀ k, ¬ isMatch k) → exec (.addressByte g) s = .next ((sclFell s g).setSeg g
        { x with state := .ignore, clock := .bits 0 }))

/-- The completion of a sub-address byte (R29, R54): whatever its value it is acknowledged and becomes the
target's pointer, and the segment passes to W_DATA. -/
def Obligations.SubAddressByteSetsThePointer : Prop :=
  ∀ (s : State) (g : Seg) (t : Txn), ByteSampled s g → (s.seg g).state = .wSubaddr t →
    (s.seg g).abandonTimer.isSome = true →
    exec (.subAddressByte g) s = .next
      (((sclFell s g).setEntry t.target { s.entry t.target with pointer := (s.seg g).shift }).setSeg g
        (restarted { s.seg g with state := .wData t, clock := .ack .subAddress false, sdaLow := true }))

/-- A data byte refused for its class (FIXED, unmapped or out-of-image), and every data byte in W_REFUSING
(R30, R55, R56, R83, R84): SDA stays released, REFUSED_BYTES rises and stays at 255, and on the way from
W_DATA to W_REFUSING the last open record receives CUT. The image, the pointer, the pool and the pending
set stay. -/
def Obligations.RefusedByteChangesOnlyTheCounter : Prop :=
  ∀ (s : State) (g : Seg) (t : Txn), ByteSampled s g → (s.seg g).abandonTimer.isSome = true →
    let x := s.seg g
    let refused (t' : Txn) : State := (sclFell s g).setSeg g (restarted
      { x with state := .wRefusing t', clock := .ack .dataRefused false, sdaLow := false
               counters := { x.counters with refusedBytes :=
                 if x.counters.refusedBytes = 255 then 255 else x.counters.refusedBytes + 1 } })
    (x.state = .wData t →
      (s.entry t.target).classify (s.entry t.target).pointer ∈
        [Classification.inRegion .fixed, .unmapped, .outOfImage] →
      exec (.writeDataByte g) s = .next (refused (cut t)))
    ∧ (x.state = .wRefusing t → exec (.writeDataByte g) s = .next (refused t))

/-- The completion of an OPEN data byte (R30, R55): it is written into the image at the pointer and
acknowledged, and it is not recorded. -/
def Obligations.OpenByteIsAppliedAndAcknowledged : Prop :=
  ∀ (s : State) (g : Seg) (t : Txn), ByteSampled s g → (s.seg g).abandonTimer.isSome = true →
    ImageCanonical s → EntryLaw (s.entry t.target) → (s.entry t.target).life ≠ .free →
    (s.seg g).state = .wData t →
    (s.entry t.target).classify (s.entry t.target).pointer = .inRegion .open_ →
    ∃ m, exec (.writeDataByte g) s = .next { (sclFell s g).setSeg g (restarted
        { s.seg g with state := .wData { t with unrecorded := true }
                       clock := .ack .dataAcked false, sdaLow := true }) with image := m }
      ∧ ∀ a, Memory.read m a =
          if a = (s.entry t.target).base + (s.entry t.target).pointer.toNat then (s.seg g).shift
          else Memory.read s.image a

/-- The completion of a POSTED, QUEUED or DEFERRED data byte (R31, R77, R80 to R83). It extends the last
open record where that has fewer than 16 bytes, ends just before the pointer and no OPEN byte came
between; else it opens a record in a newly reserved cell where one is free and the quota allows; else it
is refused with POOL_REFUSAL posted and CUT given. A byte with a place is acknowledged, and a POSTED one
is also written into the image. -/
def Obligations.RecordedByteFindsItsPlace : Prop :=
  ∀ (s : State) (g : Seg) (t : Txn) (c : RegionClass), ByteSampled s g →
    (s.seg g).abandonTimer.isSome = true → ImageCanonical s → EntryLaw (s.entry t.target) →
    (s.entry t.target).life ≠ .free → (s.seg g).state = .wData t →
    c ∈ [RegionClass.posted, .queued, .deferred] →
    (s.entry t.target).classify (s.entry t.target).pointer = .inRegion c →
    let x := s.seg g
    let e := s.entry t.target
    let extending (r : OpenRecord) : Prop :=
      r.data.length < 16 ∧ r.start.toNat + r.data.length = e.pointer.toNat ∧ t.unrecorded = false
    let granted : Prop := 1 ≤ s.pool.free ∧ s.pool.reserved g < x.config.quota.toNat
    let acked (t' : Txn) : State := (sclFell s g).setSeg g (restarted
      { x with state := .wData t', clock := .ack .dataAcked false, sdaLow := true })
    let imageAfter (m : List Host.Cell) : Prop := ∀ a, Memory.read m a =
      if c = .posted ∧ a = e.base + e.pointer.toNat then x.shift else Memory.read s.image a
    (∀ older r, t.records = older ++ [r] → extending r → ∃ m, imageAfter m
      ∧ exec (.writeDataByte g) s = .next { acked { t with
          records := older ++ [{ r with data := r.data ++ [x.shift] }], unrecorded := false }
          with image := m })
    ∧ ((∀ r, t.records.getLast? = some r → ¬ extending r) → granted → ∃ m, imageAfter m
      ∧ exec (.writeDataByte g) s = .next { acked { t with
          records := t.records ++ [{ segment := g, target := t.target, generation := e.generation
                                     address := t.address, start := e.pointer, data := [x.shift]
                                     continued := !t.records.isEmpty, cut := false }]
          unrecorded := false }
          with image := m
               pool := { s.pool with free := s.pool.free - 1 }.setReserved g (s.pool.reserved g + 1) })
    ∧ ((∀ r, t.records.getLast? = some r → ¬ extending r) → ¬ granted →
      exec (.writeDataByte g) s = .next (State.post ((sclFell s g).setSeg g (restarted
        { x with state := .wRefusing (cut t), clock := .ack .dataRefused false, sdaLow := false
                 counters := { x.counters with refusedBytes :=
                   if x.counters.refusedBytes = 255 then 255 else x.counters.refusedBytes + 1 } }))
        .poolRefusal))

/-- The ninth rising edge of an acknowledged write data byte and of a transmitted byte (R55, R58): the
pointer takes one step. After a transmitted byte SDA low is the master's ACK, and SDA high its NACK, which
leads to R_DONE. -/
def Obligations.AcknowledgeBitStepsThePointer : Prop :=
  ∀ (s : State) (g : Seg) (t : Txn) (sda : Bool), ClockLow s g →
    (s.seg g).abandonTimer.isSome = true →
    let stepped := (sclRose s g sda).setEntry t.target
      { s.entry t.target with pointer := (s.entry t.target).nextPointer }
    ((s.seg g).state = .wData t → (s.seg g).clock = .ack .dataAcked false →
      exec (.writeAckBit g sda) s = .next (stepped.setSeg g (restarted
        { s.seg g with clock := .ack .dataAcked true })))
    ∧ ((s.seg g).state = .rData t → (s.seg g).clock = .ack .transmitted false →
      (s.seg g).sdaLow = false →
      exec (.masterAckBit g sda) s = .next (stepped.setSeg g (restarted
        { s.seg g with state := if sda then .rDone t else .rData t, clock := .ack .transmitted true })))

/-- An edge of SCL that is no other row (R45 to R48, R65). A rising edge samples SDA as the
next bit, most significant first; while a byte is received, the edge after an acknowledge clock releases
SDA; while a byte is sent, a falling edge presents the next bit, or, after the eighth, releases SDA for the acknowledge
clock. Where the segment takes no bits only the line, and a running abandon timer, follow. That the register of
received bits also shifts while a byte is sent, and that the lines are followed while the segment is OFF,
is the model's choice (notes/assumptions/5.md and 6.md). -/
def Obligations.SclEdgeTakesOrPresentsABit : Prop :=
  ∀ (s : State) (g : Seg) (sda : Bool), s.inReset = false →
    let x := s.seg g
    let receiving := x.state = .address ∨ ∃ t, x.state = .wSubaddr t ∨ x.state = .wData t
      ∨ x.state = .wRefusing t
    let takes := receiving ∨ ∃ t, x.state = .rData t
    let idleBits := x.state ∈ [SegState.off, .idle, .ignore] ∨ ∃ t, x.state = .rDone t
    let active (y : Segment) : Segment :=
      { y with abandonTimer := x.abandonTimer.map fun _ => 10 * x.config.abandon.toNat }
    ((s.lines g).scl = false → x.sclLow = false →
      (∀ n < 8, takes → x.clock = .bits n →
        exec (.sclEdge g (.rise sda)) s = .next ((sclRose s g sda).setSeg g (active
          { x with clock := .bits (n + 1)
                   shift := (x.shift <<< 1) ||| (if sda && !x.sdaLow then 1 else 0) })))
      ∧ (∀ k, takes → k ∈ [AckKind.address, .subAddress, .dataRefused] → x.clock = .ack k false →
        exec (.sclEdge g (.rise sda)) s = .next ((sclRose s g sda).setSeg g (active
          { x with clock := .ack k true })))
      ∧ (idleBits → exec (.sclEdge g (.rise sda)) s = .next ((sclRose s g sda).setSeg g (active x))))
    ∧ ((s.lines g).scl = true →
      (∀ n < 8, receiving → x.clock = .bits n →
        exec (.sclEdge g .fall) s = .next ((sclFell s g).setSeg g (active x)))
      ∧ (∀ k, receiving → x.clock = .ack k true →
        exec (.sclEdge g .fall) s = .next ((sclFell s g).setSeg g (active
          { x with clock := .bits 0, sdaLow := false })))
      ∧ (∀ t, ∀ n < 8, x.state = .rData t → x.clock = .bits n →
        exec (.sclEdge g .fall) s = .next ((sclFell s g).setSeg g (active
          { x with sdaLow := !x.sending.getLsbD (7 - n) })))
      ∧ (∀ t, x.state = .rData t → x.clock = .bits 8 →
        exec (.sclEdge g .fall) s = .next ((sclFell s g).setSeg g (active
          { x with clock := .ack .transmitted false, sdaLow := false })))
      ∧ (idleBits → exec (.sclEdge g .fall) s = .next ((sclFell s g).setSeg g (active x))))

/-- Eight clocks with the bits of a byte on SDA, most significant first, deliver that byte (R46): after the
eighth rising edge the segment holds it whole, whatever it held before, and nothing but the line, the
place in the byte and the running abandon timer has changed. That a byte comes as its edges, and not as an
operand of its completion, is the model's reading (notes/assumptions/2.md). -/
def Obligations.EightClocksDeliverAByte : Prop :=
  ∀ (s : State) (g : Seg) (b : Byte) (rest : List Instr), ClockLow s g →
    ((s.seg g).state = .address ∨ ∃ t, (s.seg g).state = .wSubaddr t ∨ (s.seg g).state = .wData t
      ∨ (s.seg g).state = .wRefusing t) →
    (s.seg g).clock = .bits 0 → (s.seg g).sdaLow = false →
    let bit (n : Nat) : List Instr := [.sclEdge g (.rise (b.getLsbD (7 - n))), .sclEdge g .fall]
    s.pending = bit 0 ++ bit 1 ++ bit 2 ++ bit 3 ++ bit 4 ++ bit 5 ++ bit 6
      ++ .sclEdge g (.rise (b.getLsbD 0)) :: rest →
    Host.Core.run Sys2Proof.core 15 s = .next { (s.setLines g { scl := true, sda := b.getLsbD 0 }).setSeg g
      { s.seg g with clock := .bits 8, shift := b
                     abandonTimer := (s.seg g).abandonTimer.map fun _ =>
                       10 * (s.seg g).config.abandon.toNat } with pending := rest }

/-! ## Reads -/

/-- The needed byte that is sent at once (R28, R57, R110, steps 1 to 4, R121, R129): the image byte or the
fill byte for a sub-address that is not DEFERRED; the fill byte in expired mode; the read-ahead's first
byte where it is held for this sub-address; the fill byte with DEFERRED_FILLED and FILLED_ASLEEP for an
ASLEEP host under FILL. The position rises, staying at 255, and a read-ahead that does not serve the need is
discarded. That a need in expired mode discards one too, where R124 has none to discard, is the model's
reading (notes/assumptions/15.md). -/
def Obligations.NeededByteIsSentAtOnce : Prop :=
  ∀ (s : State) (g : Seg) (t : Txn) (k : AckKind), s.inReset = false → (s.lines g).scl = true →
    (s.seg g).state = .rData t → (s.seg g).clock = .ack k true → (s.seg g).abandonTimer.isSome = true →
    let e := s.entry t.target
    let class_ := e.classify e.pointer
    let next (a : ReadAhead) : Txn :=
      { t with position := if t.position = 255 then 255 else t.position + 1, ahead := a }
    let none_ : ReadAhead := { next := 0, bytes := [] }
    let sends (t' : Txn) (b : Byte) : State :=
      (sclFell s g).setSeg g (restarted (sendingByte t' b (s.seg g)))
    let serves := t.ahead.bytes ≠ [] ∧ t.ahead.next = e.pointer.toNat
    (class_ ∈ [Classification.inRegion .fixed, .inRegion .open_, .inRegion .posted, .inRegion .queued] →
      exec (.byteNeed g) s = .next (sends (next none_)
        (Memory.read s.image (e.base + e.pointer.toNat))))
    ∧ (class_ = .unmapped ∨ class_ = .outOfImage →
      exec (.byteNeed g) s = .next (sends (next none_) e.fill))
    ∧ (class_ = .inRegion .deferred →
      (t.expired = true → exec (.byteNeed g) s = .next (sends (next none_) e.fill))
      ∧ (t.expired = false →
        (∀ b rest, t.ahead.bytes = b :: rest → t.ahead.next = e.pointer.toNat →
          exec (.byteNeed g) s = .next (sends (next
            (if rest = [] then none_ else { next := t.ahead.next + 1, bytes := rest })) b))
        ∧ (¬ serves → s.events.host = .asleep → e.sleep = .fill →
          exec (.byteNeed g) s = .next (State.post ((sclFell s g).setSeg g (restarted
            { sendingByte (next none_) e.fill (s.seg g) with counters :=
              { (s.seg g).counters with filledAsleep :=
                  if (s.seg g).counters.filledAsleep = 255 then 255
                  else (s.seg g).counters.filledAsleep + 1 } })) .deferredFilled))))

/-- The needed byte that is asked of the host (R59, R110, step 5, R112, R113): a request with the sequence
counter's number, passing over the number of the other segment's request; the segment holds SCL low in
R_STRETCH with its abandon timer stopped and its expiry memory empty, the stretch timer runs for the
stretch timeout, and REQUEST_A or REQUEST_B is posted. -/
def Obligations.NeededByteIsRequested : Prop :=
  ∀ (s : State) (g : Seg) (t : Txn) (k : AckKind), s.inReset = false → (s.lines g).scl = true →
    (s.seg g).state = .rData t → (s.seg g).clock = .ack k true →
    let e := s.entry t.target
    e.classify e.pointer = .inRegion .deferred → t.expired = false →
    ¬ (t.ahead.bytes ≠ [] ∧ t.ahead.next = e.pointer.toNat) →
    ¬ (s.events.host = .asleep ∧ e.sleep = .fill) →
    let other := match g with
      | .A => (s.seg .B).state.request
      | .B => (s.seg .A).state.request
    let taken : Prop := ∃ r, other = some r ∧ r.sequence = s.dru.sequenceCounter
    ∀ n : Byte, (taken → n = s.dru.sequenceCounter + 1) → (¬ taken → n = s.dru.sequenceCounter) →
      exec (.byteNeed g) s = .next (State.post
        { (sclFell s g).setSeg g { s.seg g with
            state := .rStretch
              { t with position := if t.position = 255 then 255 else t.position + 1
                       ahead := { next := 0, bytes := [] } }
              { sequence := n, target := t.target, sub := e.pointer, position := t.position
                remaining := (s.seg g).config.stretch.toNat }
            clock := .bits 0, sdaLow := false, sclLow := true, abandonTimer := none
            expiryMemory := none }
          with dru := { s.dru with sequenceCounter := n + 1 } }
        (match g with | .A => .requestA | .B => .requestB))

/-- The answer port (R115 to R119). ANSWER_SEQ takes its value; ANSWER_DATA appends while fewer than 8 bytes
are staged and marks OVERLONG otherwise; CLEAR empties the staging. A commit that is not ACCEPTED changes
only the last outcome and empties the staging, and its outcome is the first of OVERLONG, EMPTY, LATE and
NO_REQUEST that applies. ANSWER_SEQ reads its value and ANSWER_CTRL the code of the last outcome (10.7). -/
def Obligations.AnswerPortStagesAndJudges : Prop :=
  ∀ (s : State) (v : Byte), s.inReset = false →
    let d := s.dru
    exec (.answerSeqWrite v) s = .next { undriven s with dru := { d with answerSeq := v } }
    ∧ (d.staging.length < 8 →
        exec (.answerDataWrite v) s = .next { undriven s with dru := { d with staging := d.staging ++ [v] } })
    ∧ (8 ≤ d.staging.length →
        exec (.answerDataWrite v) s = .next { undriven s with dru := { d with overlong := true } })
    ∧ exec .clear s = .next { undriven s with dru := { d with staging := [], overlong := false } }
    ∧ ((∀ g r, (s.seg g).state.request = some r → r.sequence ≠ d.answerSeq) ∨ d.overlong = true
        ∨ d.staging = [] →
        exec .commit s = .next { undriven s with dru := { d with
          staging := [], overlong := false
          lastOutcome := if d.overlong then .overlong else if d.staging = [] then .empty
            else if (s.seg .A).expiryMemory = some d.answerSeq
                ∨ (s.seg .B).expiryMemory = some d.answerSeq then .late
            else .noRequest } })
    ∧ s.hostRead 0x0C = d.answerSeq
    ∧ s.hostRead 0x0E = (match d.lastOutcome with
        | .noRequest => 0 | .accepted => 1 | .late => 2 | .empty => 3 | .overlong => 4)

/-- An ACCEPTED commit (R118 to R120): the first staged byte is sent, the others are read ahead for the
sub-addresses that follow, without those beyond 255; SCL is released, the abandon timer starts with its
full period, and the staging is emptied. -/
def Obligations.AcceptedAnswerIsDelivered : Prop :=
  ∀ (s : State) (g : Seg) (t : Txn) (r : Request) (b : Byte) (rest : List Byte), s.inReset = false →
    (s.seg g).state = .rStretch t r → r.sequence = s.dru.answerSeq → s.dru.overlong = false →
    s.dru.staging = b :: rest → SegmentsLawful s →
    ∃ a : ReadAhead,
      exec .commit s = .next { (undriven s).setSeg g (restarted (sendingByte { t with ahead := a } b (s.seg g)))
        with dru := { s.dru with staging := [], overlong := false, lastOutcome := .accepted } }
      ∧ (∀ i : Nat, a.bytes[i]? = if r.sub.toNat + 1 + i ≤ 255 then rest[i]? else none)
      ∧ (a.bytes ≠ [] → a.next = r.sub.toNat + 1)

/-! ## Timers -/

/-- A tick reaches every running timer of both segments (R49, R65, R122, R179): one with more ticks left has
one fewer, one whose last tick it is expires in the same event, and nothing else changes. Where both segments
have an expiry due, that segment A's comes first is the model's choice (notes/assumptions/14.md); the expiry
rows as the last tick of one timer are its reading (notes/assumptions/4.md). -/
def Obligations.TickReachesEveryRunningTimer : Prop :=
  ∀ s : State, s.inReset = false → SegmentsLawful s →
    (dueExpiry .A s.segA = none → dueExpiry .B s.segB = none →
      exec .tick s = .next { s with segA := tickedDown s.segA, segB := tickedDown s.segB })
    ∧ ∀ (u : State) (c : Instr), exec c s = .next u →
      (dueExpiry .A s.segA = some c → dueExpiry .B s.segB = none →
        exec .tick s = .next { u with segB := tickedDown s.segB })
      ∧ (dueExpiry .B s.segB = some c → dueExpiry .A s.segA = none →
        exec .tick s = .next { u with segA := tickedDown s.segA })
      ∧ ∀ d, dueExpiry .A s.segA = some c → dueExpiry .B s.segB = some d → exec .tick s = exec d u

/-- The expiries, at a timer's last tick (R63, R65, R88, R123). ABANDON_TIMER_EXPIRY: ABANDONED rises,
TRANSACTION_ABANDONED is posted, and the transaction ends ABANDONED on a segment that passes to IDLE.
STRETCH_EXPIRY: the request's number goes into the expiry memory, the transaction enters expired mode, the
fill byte is sent with SCL released, the abandon timer starts, EXPIRED rises and STRETCH_EXPIRED is posted.
Both counters stay at 255. -/
def Obligations.ExpiriesAbandonOrFill : Prop :=
  ∀ (s : State) (g : Seg) (t : Txn), s.inReset = false →
    ((s.seg g).txn = some t → (s.seg g).abandonTimer = some 1 →
      exec (.abandonTimerExpiry g) s = .next (State.endTransaction (State.post
        (s.setSeg g { s.seg g with counters := { (s.seg g).counters with abandoned :=
          if (s.seg g).counters.abandoned = 255 then 255 else (s.seg g).counters.abandoned + 1 } })
        .transactionAbandoned) g t .abandoned .idle))
    ∧ ∀ r, (s.seg g).state = .rStretch t r → r.remaining = 1 →
      exec (.stretchExpiry g) s = .next (State.post (s.setSeg g (restarted
        { sendingByte { t with expired := true } (s.entry t.target).fill (s.seg g) with
          expiryMemory := some r.sequence
          counters := { (s.seg g).counters with expired :=
            if (s.seg g).counters.expired = 255 then 255 else (s.seg g).counters.expired + 1 } }))
        .stretchExpired)

/-! ## The Command Engine -/

/-- COMMAND_ISSUE and CLEAR_COLLISION (R136, R138): in IDLE a write to CMD holds the code, latches the
parameter area and passes to RUNNING; while a command is held it only sets COLLISION. A write to CMD_STATUS
clears COLLISION where its bit 2 is 1, and does nothing else. CMD reads the held code, and CMD_STATUS the
result code in bits 6 to 4, COLLISION in bit 2, WAITING in bit 1 and BUSY in bit 0 (R137, 10.7). That the
written bit of COLLISION is the one 10.7 shows is the model's reading (notes/assumptions/22.md). -/
def Obligations.CommandIssueLatchesOrCollides : Prop :=
  ∀ (s : State) (v : Byte), s.inReset = false →
    (s.engine.state = .idle → exec (.commandIssue v) s = .next { undriven s with engine :=
      { s.engine with state := .running, code := v, latched := s.engine.params } })
    ∧ (s.engine.state ≠ .idle → exec (.commandIssue v) s = .next { undriven s with engine :=
      { s.engine with collision := true } })
    ∧ exec (.clearCollision v) s = .next { undriven s with engine :=
      { s.engine with collision := s.engine.collision && !v.getLsbD 2 } }
    ∧ s.hostRead 0x00 = s.engine.code
    ∧ (s.hostRead 0x01).toNat = 16 * (match s.engine.result with
          | .ok => 0 | .badIndex => 1 | .badState => 2 | .badParam => 3 | .conflict => 4 | .overlap => 5
          | .aborted => 6 | .unknown => 7)
        + (if s.engine.collision then 4 else 0)
        + (match s.engine.state with | .idle => 0 | .running => 1 | .waiting _ _ => 3)

/-- What a completion does (R140, R141, R152): the engine passes to IDLE with the result code, COMMAND_DONE
is posted, and the held code, the latched parameters and COLLISION stay. Results, where there are any, are
written into consecutive positions of the parameter area, and every other position keeps its value. -/
def Obligations.CompletionAndResultPositions : Prop :=
  ∀ (s : State) (r : ResultCode) (first : Nat) (bytes : List Byte), first + bytes.length ≤ 16 →
    (∃ e : Events,
      s.complete r = { s with engine := { s.engine with state := .idle, result := r }, events := e }
      ∧ (∀ n : Nat, e.pending.getLsbD n = (s.events.pending.getLsbD n || n == 0))
      ∧ e.intEnable = s.events.intEnable ∧ e.wakeEnable = s.events.wakeEnable
      ∧ e.host = s.events.host ∧ OutputsJudged (s.complete r))
    ∧ ∃ p : Params, s.writeResults first bytes = { s with engine := { s.engine with params := p } }
      ∧ ∀ j : Fin 16, p[j] = if first ≤ j.val ∧ j.val < first + bytes.length
          then bytes.getD (j.val - first) 0 else s.engine.params[j]

/-- A command whose check fails takes none of its effects (R141): whenever a completion check leaves the
engine IDLE with a result other than OK, the completion is all that has happened. -/
def Obligations.RefusedCommandTakesNoEffect : Prop :=
  ∀ (s t : State) (c : Instr),
    c ∈ [Instr.define, .enable, .disable, .release, .vtQuery, .regions, .imagePut, .imageGet, .flush,
         .queueConfig, .segment, .clearCounters, .sleep, .awake, .reinit, .unknown] →
    s.engine.state = .running → exec c s = .next t → t.engine.state = .idle → t.engine.result ≠ .ok →
    t = s.complete t.engine.result

/-- DEFINE (R2, R11, R12): the checks in their order, each in the spec's own terms, and the entry that an
OK makes, with its new generation at result position 11. -/
def Obligations.DefineChecksThenAllocates : Prop :=
  ∀ s : State, Running s 0x01 →
    let p := s.engine.latched
    let address : BusAddress := p[2].setWidth 7
    let mask : BusAddress := p[3].setWidth 7
    let base := 256 * p[4].toNat + p[5].toNat
    let length := 256 * p[6].toNat + p[7].toNat
    let valid : Prop := p[1].toNat ≤ 1 ∧ p[2].toNat < 128 ∧ p[3].toNat < 128 ∧ 1 ≤ length
      ∧ length ≤ 256 ∧ base ≤ 2047 ∧ base + length ≤ 2048 ∧ p[9].toNat ≤ 1 ∧ p[10].toNat ≤ 1
      ∧ ∀ x, InMatchSet address mask x → ¬ Reserved x
    let shared (j : Fin 16) : Prop := (s.entry j).life ≠ .free
      ∧ ∃ o, InRange base length o ∧ InRange (s.entry j).base (s.entry j).length o
    (16 ≤ p[0].toNat → exec .define s = .next (s.complete .badIndex))
    ∧ ∀ k : Fin 16, p[0].toNat = k.val →
      ((s.entry k).life ≠ .free → exec .define s = .next (s.complete .badState))
      ∧ ((s.entry k).life = .free →
        (¬ valid → exec .define s = .next (s.complete .badParam))
        ∧ (valid → (∀ j, (s.entry j).life ≠ .free → 1 ≤ (s.entry j).length) →
          ((∃ j, shared j) → exec .define s = .next (s.complete .overlap))
          ∧ ((¬ ∃ j, shared j) → exec .define s = .next (((s.setEntry k
              { life := .defined, segment := if p[1] = 0 then .A else .B, address := address
                mask := mask, base := base, length := length, fill := p[8]
                wrap := if p[9] = 0 then .wrap else .run, sleep := if p[10] = 0 then .fill else .wait
                pointer := 0, generation := (s.entry k).generation + 1, regions := [] }).writeResults 11
              [(s.entry k).generation + 1]).complete .ok))))

/-- ENABLE and RELEASE (R3, R5, R13, R20): the checks in their order. ENABLE's CONFLICT means an address shared
with an ACTIVE or CLOSING entry of the same segment; its OK sets the pointer to 0 and the state to ACTIVE.
RELEASE's OK makes the entry FREE, with no configuration, an empty region list and its generation kept; no
image byte and no queued record changes. That its pointer is 0 too, where R20 is silent, is the model's choice
(notes/assumptions/11.md). -/
def Obligations.EnableActivatesAndReleaseFrees : Prop :=
  ∀ s : State,
    let meets (k j : Fin 16) : Prop := ((s.entry j).life = .active ∨ (s.entry j).life = .closing)
      ∧ (s.entry j).segment = (s.entry k).segment
      ∧ ∃ x, InMatchSet (s.entry k).address (s.entry k).mask x
          ∧ InMatchSet (s.entry j).address (s.entry j).mask x
    (Running s 0x02 →
      (16 ≤ s.engine.latched[0].toNat → exec .enable s = .next (s.complete .badIndex))
      ∧ ∀ k : Fin 16, s.engine.latched[0].toNat = k.val →
        ((s.entry k).life ≠ .defined → exec .enable s = .next (s.complete .badState))
        ∧ ((s.entry k).life = .defined →
          ((∃ j, meets k j) → exec .enable s = .next (s.complete .conflict))
          ∧ ((¬ ∃ j, meets k j) → exec .enable s = .next
              ((s.setEntry k { s.entry k with pointer := 0, life := .active }).complete .ok))))
    ∧ (Running s 0x04 →
      (16 ≤ s.engine.latched[0].toNat → exec .release s = .next (s.complete .badIndex))
      ∧ ∀ k : Fin 16, s.engine.latched[0].toNat = k.val →
        ((s.entry k).life ≠ .defined → exec .release s = .next (s.complete .badState))
        ∧ ((s.entry k).life = .defined → exec .release s = .next
            ((s.setEntry k (Entry.freeWith (s.entry k).generation)).complete .ok)))

/-- DISABLE (R14, R15, R18): the checks in their order; GRACEFUL makes an unbound entry DEFINED, and a bound
one CLOSING with the engine WAITING for its segment; FORCED makes the entry DEFINED and abandons a
transaction bound to it. -/
def Obligations.DisableIsGracefulOrForced : Prop :=
  ∀ s : State, Running s 0x03 →
    let p := s.engine.latched
    let become (k : Fin 16) (l : LifeState) : State := s.setEntry k { s.entry k with life := l }
    let boundOn (k : Fin 16) (t : Txn) : Prop :=
      (s.seg (s.entry k).segment).txn = some t ∧ t.target = k
    (16 ≤ p[0].toNat → exec .disable s = .next (s.complete .badIndex))
    ∧ ∀ k : Fin 16, p[0].toNat = k.val →
      let g := (s.entry k).segment
      ((s.entry k).life ≠ .active → exec .disable s = .next (s.complete .badState))
      ∧ ((s.entry k).life = .active →
        (2 ≤ p[1].toNat → exec .disable s = .next (s.complete .badParam))
        ∧ (p[1].toNat ≤ 1 → (¬ ∃ t, boundOn k t) →
          exec .disable s = .next ((become k .defined).complete .ok))
        ∧ (p[1] = 0 → (∃ t, boundOn k t) → exec .disable s = .next { become k .closing with
            engine := { s.engine with state := .waiting g (.disable k) } })
        ∧ (p[1] = 1 → ∀ t, boundOn k t → exec .disable s = .next (State.complete (State.endTransaction
            (State.post ((become k .defined).setSeg g { s.seg g with counters :=
              { (s.seg g).counters with abandoned :=
                  if (s.seg g).counters.abandoned = 255 then 255
                  else (s.seg g).counters.abandoned + 1 } }) .transactionAbandoned)
            g t .abandoned .idle) .ok)))

/-- VT_QUERY (R21, 8.8): the checks in their order, and the two snapshots byte by byte. -/
def Obligations.QueryReturnsASnapshot : Prop :=
  ∀ s : State, Running s 0x05 →
    let p := s.engine.latched
    (16 ≤ p[0].toNat → exec .vtQuery s = .next (s.complete .badIndex))
    ∧ ∀ k : Fin 16, p[0].toNat = k.val →
      let e := s.entry k
      let returns (l : List Byte) : Prop := exec .vtQuery s = .next ((s.writeResults 0 l).complete .ok)
      let bound : Prop := ∃ t, (s.seg e.segment).txn = some t ∧ t.target = k
      (2 ≤ p[1].toNat → exec .vtQuery s = .next (s.complete .badParam))
      ∧ (p[1] = 0 → e.life = .free → returns [0, 0, 0, 0, 0, 0, 0, 0, 0, 0, e.generation, 0])
      ∧ (p[1] = 0 → e.life ≠ .free → ∀ b : Byte, (b = 1 ↔ bound) → (b = 0 ↔ ¬ bound) → returns
          [(match e.life with | .free => 0 | .defined => 1 | .active => 2 | .closing => 3),
           (match e.segment with | .A => 0 | .B => 1), e.address.setWidth 8, e.mask.setWidth 8,
           BitVec.ofNat 8 (e.base / 256), BitVec.ofNat 8 (e.base % 256), BitVec.ofNat 8 (e.length % 256),
           e.fill,
           (match e.wrap with | .wrap => 0 | .run => 1) ||| (match e.sleep with | .fill => 0 | .wait => 2),
           e.pointer, e.generation, b])
      ∧ (p[1] = 1 → e.regions.length ≤ 4 → ∃ l : List Byte, l.length = 13 ∧ returns l
          ∧ l[0]? = some (BitVec.ofNat 8 e.regions.length)
          ∧ (∀ (j : Nat) (r : Region), e.regions[j]? = some r →
              l[3 * j + 1]? = some r.start ∧ l[3 * j + 2]? = some (BitVec.ofNat 8 (r.length % 256))
              ∧ l[3 * j + 3]? = some (match r.cls with
                | .fixed => 0 | .open_ => 1 | .posted => 2 | .queued => 3 | .deferred => 4))
          ∧ ∀ i : Nat, 3 * e.regions.length + 1 ≤ i → i < 13 → l[i]? = some 0)

/-- REGIONS (R35 to R37): the checks in their order, the list read from the slots within the count and found
valid when each region ends within the image and no two share a sub-address. An OK stores it in order of
start; on an ACTIVE entry that is bound the engine waits with the list held. -/
def Obligations.RegionsStoresOrWaits : Prop :=
  ∀ s : State, Running s 0x10 →
    let p := s.engine.latched
    let slot (i : Nat) : Byte × Byte × Byte :=
      (p.toList.getD (3 * i + 2) 0, p.toList.getD (3 * i + 3) 0, p.toList.getD (3 * i + 4) 0)
    let reads (i : Nat) (r : Region) : Prop := r.start = (slot i).1
      ∧ r.length = (if (slot i).2.1 = 0 then 256 else (slot i).2.1.toNat)
      ∧ (slot i).2.2 = (match r.cls with
          | .fixed => 0 | .open_ => 1 | .posted => 2 | .queued => 3 | .deferred => 4)
    let given (l : List Region) : Prop := p[1].toNat ≤ 4 ∧ l.length = p[1].toNat
      ∧ ∀ i r, l[i]? = some r → reads i r
    let valid (k : Fin 16) (l : List Region) : Prop :=
      (∀ r ∈ l, r.start.toNat + r.length ≤ (s.entry k).length)
      ∧ l.Pairwise fun r q => ¬ ∃ x, InRegion r x ∧ InRegion q x
    let bound (k : Fin 16) : Prop :=
      ∃ t, (s.seg (s.entry k).segment).txn = some t ∧ t.target = k
    (16 ≤ p[0].toNat → exec .regions s = .next (s.complete .badIndex))
    ∧ ∀ k : Fin 16, p[0].toNat = k.val →
      ((s.entry k).life = .free ∨ (s.entry k).life = .closing →
        exec .regions s = .next (s.complete .badState))
      ∧ ((s.entry k).life = .defined ∨ (s.entry k).life = .active →
        ((¬ ∃ l, given l ∧ valid k l) → exec .regions s = .next (s.complete .badParam))
        ∧ (∀ l, given l → valid k l →
          ((s.entry k).life = .defined ∨ ¬ bound k → ∃ sorted : List Region,
            sorted.Perm l ∧ sorted.Pairwise (fun r q => r.start.toNat ≤ q.start.toNat)
            ∧ exec .regions s = .next
                ((s.setEntry k { s.entry k with regions := sorted }).complete .ok))
          ∧ ((s.entry k).life = .active → bound k → exec .regions s = .next { s with engine :=
              { s.engine with state := .waiting (s.entry k).segment (.regions k l) } })))

/-- IMAGE_PUT (R39 to R41): the checks in their order; the bytes go to the image at once, or, with ATOMIC on
a bound entry, the engine waits with them held. No other image byte changes. -/
def Obligations.ImagePutWritesOrWaits : Prop :=
  ∀ s : State, Running s 0x11 → ImageCanonical s →
    let p := s.engine.latched
    let count := p[2].toNat
    let bytes := (p.toList.drop 4).take count
    let bound (k : Fin 16) : Prop :=
      ∃ t, (s.seg (s.entry k).segment).txn = some t ∧ t.target = k
    (16 ≤ p[0].toNat → exec .imagePut s = .next (s.complete .badIndex))
    ∧ ∀ k : Fin 16, p[0].toNat = k.val → EntryLaw (s.entry k) →
      let valid : Prop := 1 ≤ count ∧ count ≤ 12 ∧ p[1].toNat + count ≤ (s.entry k).length
        ∧ p[3].toNat ≤ 1
      let at_ := (s.entry k).base + p[1].toNat
      ((s.entry k).life = .free → exec .imagePut s = .next (s.complete .badState))
      ∧ ((s.entry k).life ≠ .free →
        (¬ valid → exec .imagePut s = .next (s.complete .badParam))
        ∧ (valid →
          (p[3] = 0 ∨ ¬ bound k → ∃ m, exec .imagePut s = .next (State.complete { s with image := m } .ok)
            ∧ ∀ a, Memory.read m a =
                if at_ ≤ a ∧ a < at_ + count then bytes.getD (a - at_) 0 else Memory.read s.image a)
          ∧ (p[3] = 1 → bound k → exec .imagePut s = .next { s with engine := { s.engine with
              state := .waiting (s.entry k).segment (.imagePut k p[1] bytes) } })))

/-- IMAGE_GET (R42): the checks in their order; the bytes are copied into positions 0 to count - 1. -/
def Obligations.ImageGetCopiesTheBytes : Prop :=
  ∀ s : State, Running s 0x12 →
    let p := s.engine.latched
    let count := p[2].toNat
    (16 ≤ p[0].toNat → exec .imageGet s = .next (s.complete .badIndex))
    ∧ ∀ k : Fin 16, p[0].toNat = k.val →
      let valid : Prop := 1 ≤ count ∧ count ≤ 16 ∧ p[1].toNat + count ≤ (s.entry k).length
      ((s.entry k).life = .free → exec .imageGet s = .next (s.complete .badState))
      ∧ ((s.entry k).life ≠ .free →
        (¬ valid → exec .imageGet s = .next (s.complete .badParam))
        ∧ (valid → ∃ l : List Byte, l.length = count
          ∧ exec .imageGet s = .next ((s.writeResults 0 l).complete .ok)
          ∧ ∀ i < count, l[i]? = some (Memory.read s.image ((s.entry k).base + p[1].toNat + i))))

/-- FLUSH and QUEUE_CONFIG (R98, R101, R104). FLUSH removes exactly the records in its scope; the others
keep their order and numbers, a cell becomes free for each removed one, the data index returns to 0 when
the head was among them, and their count is written at position 1. QUEUE_CONFIG takes a threshold of 1 to
32 and returns the depth and the record counter at positions 1 and 2. Neither posts a queue event. -/
def Obligations.QueueCommandsFlushAndConfigure : Prop :=
  ∀ s : State,
    let v := s.engine.latched[0].toNat
    let inScope (r : QueuedRecord) : Bool :=
      v == 0 || (v == 1 && r.body.segment == .A) || (v == 2 && r.body.segment == .B)
    let removed := (s.queue.records.filter inScope).length
    (Running s 0x20 →
      (3 ≤ v → exec .flush s = .next (s.complete .badParam))
      ∧ (v ≤ 2 → exec .flush s = .next (State.complete (State.writeResults
        { s with queue := { s.queue with records := s.queue.records.filter fun r => !inScope r }
                 pool := { s.pool with free := s.pool.free + removed }
                 window := { s.window with dataIndex :=
                   if s.queue.records.head?.any inScope then 0 else s.window.dataIndex } }
        1 [BitVec.ofNat 8 removed]) .ok)))
    ∧ (Running s 0x21 →
      (v = 0 ∨ 32 < v → exec .queueConfig s = .next (s.complete .badParam))
      ∧ (1 ≤ v → v ≤ 32 → exec .queueConfig s = .next (State.complete (State.writeResults
        { s with queue := { s.queue with threshold := v } }
        1 [BitVec.ofNat 8 s.queue.records.length, s.queue.counter]) .ok)))

/-- SEGMENT (R67, R68): the checks; with power OFF the segment is OFF with the new values and a bound
transaction is abandoned; with power ON an unbound segment takes the values, an OFF one becoming IDLE, and
on a bound one the engine waits with the values held. -/
def Obligations.SegmentConfiguresOrWaits : Prop :=
  ∀ s : State, Running s 0x30 →
    let p := s.engine.latched
    let valid : Prop := p[0].toNat ≤ 1 ∧ p[1].toNat ≤ 1 ∧ p[2] ≠ 0 ∧ p[3] ≠ 0 ∧ 1 ≤ p[4].toNat
      ∧ p[4].toNat ≤ 32
    let c : SegConfig := { stretch := p[2], abandon := p[3], quota := p[4] }
    let g : Seg := if p[0] = 0 then .A else .B
    let x := s.seg g
    (¬ valid → exec .segment s = .next (s.complete .badParam))
    ∧ (valid → p[1] = 0 →
      (x.txn = none → exec .segment s = .next
        ((s.setSeg g { unbound .off x with config := c }).complete .ok))
      ∧ (∀ t, x.txn = some t → exec .segment s = .next (State.complete
          ((State.post { s with pool :=
              { s.pool with free := s.pool.free + s.pool.reserved g }.setReserved g 0 }
              .transactionAbandoned).setSeg g
            { unbound .off x with
              config := c
              counters := { x.counters with abandoned :=
                if x.counters.abandoned = 255 then 255 else x.counters.abandoned + 1 } }) .ok)))
    ∧ (valid → p[1] = 1 →
      (x.state = .off → exec .segment s = .next
        ((s.setSeg g { unbound .idle x with config := c }).complete .ok))
      ∧ (x.state ∈ [SegState.idle, .address, .ignore] → exec .segment s = .next
        ((s.setSeg g { x with config := c }).complete .ok))
      ∧ (∀ t, x.txn = some t → exec .segment s = .next { s with engine :=
          { s.engine with state := .waiting g (.segment c) } }))

/-- CLEAR_COUNTERS (R70): the five counters of each segment in the scope are 0 at once, bound or not, and an
increment taken after the clear leaves 1. -/
def Obligations.ClearCountersZeroesItsScope : Prop :=
  ∀ s : State, Running s 0x31 →
    let v := s.engine.latched[0].toNat
    let zeroed (x : Segment) : Segment := { x with counters :=
      { abandoned := 0, broken := 0, expired := 0, refusedBytes := 0, filledAsleep := 0 } }
    (3 ≤ v → exec .clearCounters s = .next (s.complete .badParam))
    ∧ (v ≤ 2 → exec .clearCounters s = .next (State.complete
        { s with segA := if v = 2 then s.segA else zeroed s.segA
                 segB := if v = 1 then s.segB else zeroed s.segB } .ok))
    ∧ saturatingInc (zeroed s.segA).counters.abandoned = 1

/-- SLEEP, AWAKE and a code that names no command (R143, R162 to R165): SLEEP and AWAKE set the host state,
judge WAKE with it and complete OK, and HOST_STATE reads it; an unknown code, `$00` among them, completes
UNKNOWN with no effect. -/
def Obligations.HostStateAndUnknownCodes : Prop :=
  ∀ s : State, s.inReset = false → s.engine.state = .running →
    (s.engine.code = 0x40 → ∃ t, exec .sleep s = .next t ∧ OutputsJudged t
      ∧ t = { s with
          engine := { s.engine with state := .idle, result := .ok }
          events := { s.events with pending := s.events.pending ||| 1, host := .asleep
                                    intLow := t.events.intLow, wakeHigh := t.events.wakeHigh } })
    ∧ (s.engine.code = 0x41 → ∃ t, exec .awake s = .next t ∧ OutputsJudged t
      ∧ t = { s with
          engine := { s.engine with state := .idle, result := .ok }
          events := { s.events with pending := s.events.pending ||| 1, host := .awake
                                    intLow := t.events.intLow, wakeHigh := false } })
    ∧ (s.engine.code ∉ [0x01, 0x02, 0x03, 0x04, 0x05, 0x10, 0x11, 0x12, 0x20, 0x21, 0x30, 0x31, 0x40, 0x41,
        0x50] → exec .unknown s = .next (s.complete .unknown))
    ∧ s.hostRead 0x03 = (match s.events.host with | .awake => 0 | .asleep => 1)

/-- REINIT (R154, R168): every entry FREE with its generation kept, both segments, the pool, the queue and the
Deferred Read Unit at their reset states, the enables 0 and the host AWAKE, PAGE and the data index 0, and
the pending set holding COMMAND_DONE alone; image bytes, the parameter area, the latched parameters, the
held code and COLLISION keep their values, and the host bus cycle is not affected (R185). That the board's
lines keep their levels is the model's choice (notes/assumptions/5.md), and so is the form in which a read
access under way goes on, `dataOut` (notes/assumptions/7.md). -/
def Obligations.ReinitKeepsImagesAndGenerations : Prop :=
  ∀ s : State, Running s 0x50 → ∃ t : State, exec .reinit s = .next t
    ∧ (∀ k, t.entry k = Entry.freeWith (s.entry k).generation)
    ∧ (∀ g, (t.seg g).state = .off ∧ (t.seg g).sdaLow = false ∧ (t.seg g).sclLow = false
        ∧ (t.seg g).abandonTimer = none ∧ (t.seg g).expiryMemory = none
        ∧ (t.seg g).config = { stretch := 50, abandon := 35, quota := 16 }
        ∧ (t.seg g).counters = Counters.zero)
    ∧ t.pool = { free := 32, reservedA := 0, reservedB := 0 }
    ∧ t.queue = { records := [], counter := 0, threshold := 24, emptyPop := false }
    ∧ t.dru = { sequenceCounter := 0, answerSeq := 0, staging := [], overlong := false,
                lastOutcome := .noRequest }
    ∧ t.events = { pending := 1, intEnable := 0, wakeEnable := 0, host := .awake, intLow := false,
                   wakeHigh := false }
    ∧ t.engine = { s.engine with state := .idle, result := .ok }
    ∧ t.window = { s.window with page := 0, dataIndex := 0 }
    ∧ t.image = s.image ∧ t.inReset = false ∧ t.pending = s.pending ∧ (∀ g, t.lines g = s.lines g)

/-- ABORT (R17, R147): a WAITING command completes ABORTED with none of its effects, a CLOSING entry of a
graceful DISABLE returning to ACTIVE; in IDLE and RUNNING the write is disregarded. -/
def Obligations.AbortWithdrawsTheWaitingCommand : Prop :=
  ∀ (s : State) (v : Byte), s.inReset = false →
    (∀ g k, s.engine.state = .waiting g (.disable k) → exec (.abort v) s = .next
      (((undriven s).setEntry k { s.entry k with life := .active }).complete .aborted))
    ∧ (∀ g h, s.engine.state = .waiting g h → (∀ k, h ≠ .disable k) →
      exec (.abort v) s = .next ((undriven s).complete .aborted))
    ∧ ((∀ g h, s.engine.state ≠ .waiting g h) → exec (.abort v) s = .next (undriven s))
    ∧ s.hostRead 0x0B = 0

/-! ## The Host Window -/

/-- The upper half follows PAGE (R99, R100, R135, R169, R170, R175 to R180, 10.7). PAGE takes 0 to 3,
disregards the rest and reads its value. A parameter is written while page 0 is shown, the data index while
page 1 is, a value above 16 setting it to 16; elsewhere the write changes nothing. Page 0 reads the parameter
area, page 1 the head record, page 2 the request view of each segment and the staging, page 3 the counters.
A read access at the location of the data port drives the value read there on D7 to D0 until the access ends;
on page 1 that is the head's byte at the data index, or `$00` beyond its count and on an empty queue, and the
read raises the index up to 16. A write finds the read access before it ended. When a read access ends, and
that the value it drives stands in `dataOut`, is the model's choice (notes/assumptions/7.md); that an access
follows its location is its reading (notes/assumptions/8.md). -/
def Obligations.UpperHalfFollowsThePage : Prop :=
  ∀ (s : State) (i : Fin 16) (v : Byte), s.inReset = false →
    let n := s.window.dataIndex
    let raised := if n < 16 then n + 1 else n
    let reads (position : Nat) : Byte := s.hostRead (BitVec.ofNat 5 (16 + position))
    let drives (b : Byte) (index : Nat) : State :=
      { s with window := { s.window with dataOut := some b, dataIndex := index } }
    let requestView (x : Segment) (first : Nat) : Prop :=
      reads first = (if x.state.request.isSome then 1 else 0) + (if x.expiryMemory.isSome then 2 else 0)
      ∧ (∀ r, x.state.request = some r → reads (first + 1) = r.sequence
          ∧ reads (first + 2) = BitVec.ofNat 8 r.target.val ∧ reads (first + 3) = r.sub
          ∧ reads (first + 4) = r.position ∧ reads (first + 6) = BitVec.ofNat 8 r.remaining)
      ∧ ∀ m, x.expiryMemory = some m → reads (first + 5) = m
    let counters (c : Counters) (first : Nat) : Prop :=
      reads first = c.abandoned ∧ reads (first + 1) = c.broken ∧ reads (first + 2) = c.expired
      ∧ reads (first + 3) = c.refusedBytes ∧ reads (first + 4) = c.filledAsleep
    (∀ m : Fin 4, v.toNat = m.val → exec (.pageWrite v) s = .next { s with
      window := { s.window with page := m, dataOut := none } })
    ∧ (4 ≤ v.toNat → exec (.pageWrite v) s = .next (undriven s))
    ∧ s.hostRead 0x02 = BitVec.ofNat 8 s.window.page.val
    ∧ (s.window.page = 0 →
      exec (.parameterWrite i v) s = .next { undriven s with
        engine := { s.engine with params := s.engine.params.set i v } }
      ∧ exec (.dataIndexWrite v) s = exec (.parameterWrite 11 v) s
      ∧ exec .dataPortRead s = .next (drives s.engine.params[10] n)
      ∧ reads i.val = s.engine.params[i])
    ∧ (s.window.page = 1 →
      exec (.dataIndexWrite v) s = .next { s with window :=
        { s.window with dataIndex := if v.toNat ≤ 16 then v.toNat else 16, dataOut := none } }
      ∧ exec (.parameterWrite 11 v) s = exec (.dataIndexWrite v) s
      ∧ (i ≠ 11 → exec (.parameterWrite i v) s = .next (undriven s))
      ∧ reads 11 = BitVec.ofNat 8 n
      ∧ (∀ r rest, s.queue.records = r :: rest →
        exec .dataPortRead s = .next (drives (r.body.data.getD n 0) raised)
        ∧ reads 0 = 1 ∧ reads 1 = (match r.body.segment with | .A => 0 | .B => 1)
        ∧ reads 2 = (match r.cause with | .stop => 0 | .repeatedStart => 1 | .broken => 2)
        ∧ reads 3 = BitVec.ofNat 8 r.body.target.val ∧ reads 4 = r.body.generation
        ∧ reads 5 = r.body.address.setWidth 8 ∧ reads 6 = r.body.start
        ∧ reads 7 = BitVec.ofNat 8 r.body.data.length
        ∧ reads 8 = (if r.body.continued then 1 else 0) + (if r.body.cut then 2 else 0)
        ∧ reads 9 = r.number ∧ reads 10 = r.body.data.getD n 0)
      ∧ (s.queue.records = [] → exec .dataPortRead s = .next (drives 0 raised)))
    ∧ (s.window.page = 2 ∨ s.window.page = 3 → exec (.parameterWrite i v) s = .next (undriven s)
      ∧ exec (.dataIndexWrite v) s = .next (undriven s))
    ∧ (s.window.page = 2 → requestView s.segA 0 ∧ requestView s.segB 7
      ∧ (s.dru.staging.length ≤ 8 →
        (reads 14).toNat = s.dru.staging.length + if s.dru.overlong then 128 else 0)
      ∧ ∀ b, (∀ r, s.segB.state.request = some r → b = r.sub) →
        (s.segB.state.request = none → b = 0) → exec .dataPortRead s = .next (drives b n))
    ∧ (s.window.page = 3 → counters s.segA.counters 0 ∧ counters s.segB.counters 8
      ∧ exec .dataPortRead s = .next (drives s.segB.counters.expired n))

/-- POP and EMPTY_POP (R96, R102, R103, 10.7): a POP removes the head record, frees its cell and returns the data
index to 0; on an empty queue it only sets EMPTY_POP. A write to QUEUE_DEPTH clears EMPTY_POP where bit 7 of
the value is 1, and does nothing else; QUEUE_DEPTH reads the depth with EMPTY_POP in bit 7, and POP reads
`$00`. A POP on an empty queue and a clear leave EMPTY_POP as the later one does. That the written bit of
EMPTY_POP is the one 10.7 shows is the model's reading (notes/assumptions/22.md). -/
def Obligations.PopAndEmptyPop : Prop :=
  ∀ (s : State) (v w : Byte), s.inReset = false →
    (∀ r rest, s.queue.records = r :: rest → exec (.pop v) s = .next { s with
      queue := { s.queue with records := rest }
      pool := { s.pool with free := s.pool.free + 1 }
      window := { s.window with dataIndex := 0, dataOut := none } })
    ∧ (s.queue.records = [] → exec (.pop v) s = .next { undriven s with
      queue := { s.queue with emptyPop := true } })
    ∧ exec (.emptyPopClear v) s = .next { undriven s with
      queue := { s.queue with emptyPop := s.queue.emptyPop && !v.getLsbD 7 } }
    ∧ s.hostRead 0x0F = 0
    ∧ (s.queue.records.length ≤ 32 → (s.hostRead 0x0A).toNat =
        s.queue.records.length + if s.queue.emptyPop then 128 else 0)
    ∧ (s.queue.records = [] → v.getLsbD 7 = true → ∃ t u x y : State,
        exec (.emptyPopClear v) s = .next t ∧ exec (.pop w) t = .next u ∧ u.queue.emptyPop = true
        ∧ exec (.pop w) s = .next x ∧ exec (.emptyPopClear v) x = .next y ∧ y.queue.emptyPop = false)

/-- Locations without an item, and writes that reach no owner (R99, R117, R163, R172, R174 to R176, R179, R181,
10.7): a write to a location that takes no such write changes nothing but that D7 to D0 are undriven, and so
does a DISREGARDED_WRITE at every location and value, since at one that takes the write it is disregarded for
its strobes; and a read of a write-only location, of a reserved position of a page, or of an item that is
absent returns `$00`. That the row stands for both kinds of disregarded write is the model's choice
(notes/assumptions/9.md). -/
def Obligations.LocationsWithoutAnItem : Prop :=
  ∀ (s : State) (location : Location) (value : Byte) (n : Fin 16),
    let l := location.toNat
    let p := s.window.page
    let reads : Byte := s.hostRead (BitVec.ofNat 5 (16 + n.val))
    (s.inReset = false →
      (l = 0x03 ∨ (l = 0x02 ∧ 4 ≤ value.toNat) ∨ (l = 0x0E ∧ value ≠ 1 ∧ value ≠ 2)
          ∨ (0x10 ≤ l ∧ (p = 2 ∨ p = 3 ∨ (p = 1 ∧ l ≠ 0x1B))) →
        s.hostWrite location value = undriven s)
      ∧ exec (.disregardedWrite location value) s = .next (undriven s))
    ∧ s.hostRead 0x0B = 0 ∧ s.hostRead 0x0D = 0 ∧ s.hostRead 0x0F = 0
    ∧ (p = 1 → 12 ≤ n.val → reads = 0)
    ∧ (p = 1 → s.queue.records = [] → n ≠ 11 → reads = 0)
    ∧ (p = 2 → n = 15 → reads = 0)
    ∧ (p = 2 → s.segA.state.request = none → n ∈ [(1 : Fin 16), 2, 3, 4, 6] → reads = 0)
    ∧ (p = 2 → s.segB.state.request = none → n ∈ [(8 : Fin 16), 9, 10, 11, 13] → reads = 0)
    ∧ (p = 2 → s.segA.expiryMemory = none → n = 5 → reads = 0)
    ∧ (p = 2 → s.segB.expiryMemory = none → n = 12 → reads = 0)
    ∧ (p = 3 → n ∈ [(5 : Fin 16), 6, 7, 13, 14, 15] → reads = 0)

/-- A command whose event does not arise changes nothing: an edge or a condition the lines cannot make, since
SCL stands at the wrong level, SDA already has its new level or the part holds a line; an edge that is
another row's; a completion check of a code that is not held RUNNING; an expiry of a timer that is stopped or
has more ticks to come. This is the model's choice (notes/assumptions/1.md). -/
def Obligations.EventThatDoesNotAriseChangesNothing : Prop :=
  ∀ (s : State) (g : Seg) (sda : Bool),
    let x := s.seg g
    let unchanged (c : Instr) : Prop := exec c s = .next s
    let rises : List Instr := [.writeAckBit g sda, .masterAckBit g sda, .sclEdge g (.rise sda)]
    let falls : List Instr :=
      [.addressByte g, .subAddressByte g, .writeDataByte g, .byteNeed g, .sclEdge g .fall]
    let endsAddress : Prop := x.state = .address ∧ x.clock = .bits 8
    let endsSubAddress : Prop := (∃ t, x.state = .wSubaddr t) ∧ x.clock = .bits 8
    let endsData : Prop := (∃ t, x.state = .wData t ∨ x.state = .wRefusing t) ∧ x.clock = .bits 8
    let needsByte : Prop := (∃ t, x.state = .rData t) ∧ ∃ k, x.clock = .ack k true
    let ninthOfWrite : Prop := (∃ t, x.state = .wData t) ∧ x.clock = .ack .dataAcked false
    let ninthOfRead : Prop := (∃ t, x.state = .rData t) ∧ x.clock = .ack .transmitted false
    ((s.lines g).scl = false → ∀ c ∈ [Instr.start g, .stop g] ++ falls, unchanged c)
    ∧ ((s.lines g).scl = true → ∀ c ∈ rises, unchanged c)
    ∧ ((s.lines g).sda = false → unchanged (.start g))
    ∧ ((s.lines g).sda = true → unchanged (.stop g))
    ∧ (x.sdaLow = true → unchanged (.start g) ∧ unchanged (.stop g))
    ∧ (x.sclLow = true → ∀ c ∈ [Instr.start g, .stop g] ++ rises, unchanged c)
    ∧ (¬ endsAddress → unchanged (.addressByte g))
    ∧ (¬ endsSubAddress → unchanged (.subAddressByte g))
    ∧ (¬ endsData → unchanged (.writeDataByte g))
    ∧ (¬ needsByte → unchanged (.byteNeed g))
    ∧ (ClocksInStep s → ¬ ninthOfWrite → unchanged (.writeAckBit g sda))
    ∧ (ClocksInStep s → ¬ ninthOfRead → unchanged (.masterAckBit g sda))
    ∧ (s.inReset = false →
      (endsAddress ∨ endsSubAddress ∨ endsData ∨ needsByte → unchanged (.sclEdge g .fall))
      ∧ (ninthOfWrite ∨ ninthOfRead → unchanged (.sclEdge g (.rise sda))))
    ∧ (∀ p ∈ [((0x01 : Byte), Instr.define), (0x02, .enable), (0x03, .disable), (0x04, .release),
        (0x05, .vtQuery), (0x10, .regions), (0x11, .imagePut), (0x12, .imageGet), (0x20, .flush),
        (0x21, .queueConfig), (0x30, .segment), (0x31, .clearCounters), (0x40, .sleep), (0x41, .awake),
        (0x50, .reinit)],
      (s.engine.state ≠ .running ∨ s.engine.code ≠ p.1 → unchanged p.2)
      ∧ (s.engine.state ≠ .running ∨ s.engine.code = p.1 → unchanged .unknown))
    ∧ ((∀ n, x.abandonTimer = some n → 1 < n) → unchanged (.abandonTimerExpiry g))
    ∧ ((∀ r, x.state.request = some r → 1 < r.remaining) → unchanged (.stretchExpiry g))
end

