-- ==== Sys2Proof/Laws/Memory.lean ====
section
/-! SUPPORT. Image memory: every operation keeps the canonical form, and what a read returns after a
write of one byte. -/

namespace Sys2Proof.Machine

/-- A list canonical from an offset on is canonical from any lower one on. -/
theorem Memory.wfFrom_of_le {m : List Host.Cell} {lo hi : Nat} (h : Memory.wfFrom hi m = true)
    (le : lo ≤ hi) : Memory.wfFrom lo m = true := by
  cases m with
  | nil => rfl
  | cons c m =>
    simp only [Memory.wfFrom, Bool.and_eq_true, decide_eq_true_eq] at *
    exact ⟨⟨⟨le.trans h.1.1.1, h.1.1.2⟩, h.1.2⟩, h.2⟩

/-- Below the first offset of a canonical list every byte reads `$00`. -/
theorem Memory.read_of_lt {m : List Host.Cell} : ∀ {lo a : Nat}, Memory.wfFrom lo m = true → a < lo →
    Memory.read m a = 0 := by
  induction m with
  | nil => intros; rfl
  | cons c m ih =>
    intro lo a h lt
    simp only [Memory.wfFrom, Bool.and_eq_true, decide_eq_true_eq] at h
    rw [Memory.read, if_neg (by omega)]
    exact ih h.2 (by omega)

/-- An insertion inside image memory keeps the canonical form. -/
theorem Memory.wfFrom_insert {m : List Host.Cell} : ∀ {lo a : Nat} {v : Byte},
    Memory.wfFrom lo m = true → lo ≤ a → a < Config.imageBytes →
    Memory.wfFrom lo (Memory.insert m a v) = true := by
  induction m with
  | nil => intro lo a v _ le lt; simp only [Memory.insert]; split <;> simp_all [Memory.wfFrom]
  | cons c m ih =>
    obtain ⟨b, w⟩ := c
    intro lo a v h le lt
    have h' := h
    simp only [Memory.wfFrom, Bool.and_eq_true, decide_eq_true_eq] at h'
    simp only [Memory.insert]
    split
    · split
      · exact h
      · simp only [Memory.wfFrom, Bool.and_eq_true, decide_eq_true_eq]
        exact ⟨⟨⟨le, lt⟩, by assumption⟩, ⟨⟨by omega, h'.1.1.2⟩, h'.1.2⟩, h'.2⟩
    · split
      · split
        · exact Memory.wfFrom_of_le h'.2 (by omega)
        · simp only [Memory.wfFrom, Bool.and_eq_true, decide_eq_true_eq]
          exact ⟨⟨⟨le, lt⟩, by assumption⟩, Memory.wfFrom_of_le h'.2 (by omega)⟩
      · simp only [Memory.wfFrom, Bool.and_eq_true, decide_eq_true_eq]
        exact ⟨h'.1, ih h'.2 (by omega) lt⟩

/-- A read after an insertion: the new value at its offset, and the old byte everywhere else. -/
theorem Memory.read_insert {m : List Host.Cell} : ∀ {lo a : Nat} {v : Byte} (x : Nat),
    Memory.wfFrom lo m = true →
    Memory.read (Memory.insert m a v) x = if x = a then v else Memory.read m x := by
  induction m with
  | nil =>
    intro lo a v x _
    rw [Memory.insert]
    split
    · simp_all [Memory.read]
    · rfl
  | cons c m ih =>
    obtain ⟨b, w⟩ := c
    intro lo a v x h
    simp only [Memory.wfFrom, Bool.and_eq_true, decide_eq_true_eq] at h
    simp only [Memory.insert]
    split
    · rename_i ab
      split
      · subst_vars
        by_cases e : x = a
        · subst e
          rw [if_pos rfl, Memory.read, if_neg (by omega), Memory.read_of_lt h.2 (by omega)]
        · rw [if_neg e]
      · rfl
    · split
      · subst_vars
        split
        · subst_vars
          by_cases e : x = a
          · subst e; rw [if_pos rfl, Memory.read_of_lt h.2 (by omega)]
          · rw [if_neg e, Memory.read, if_neg e]
        · by_cases e : x = a
          · rw [if_pos e, Memory.read, if_pos e]
          · rw [if_neg e, Memory.read, if_neg e, Memory.read, if_neg e]
      · rw [Memory.read, ih x h.2, Memory.read]
        by_cases e : x = b
        · subst e; rw [if_pos rfl, if_neg (by omega), if_pos rfl]
        · rw [if_neg e, if_neg e]

/-- A write keeps the canonical form, whatever the offset. -/
theorem Memory.wf_write {m : List Host.Cell} (a : Nat) (v : Byte) (h : Memory.wf m = true) :
    Memory.wf (Memory.write m a v) = true := by
  unfold Memory.write
  split
  · exact Memory.wfFrom_insert h (Nat.zero_le a) (by assumption)
  · exact h

/-- A read after a write inside image memory. -/
theorem Memory.read_write {m : List Host.Cell} {a : Nat} (v : Byte) (x : Nat) (h : Memory.wf m = true)
    (lt : a < Config.imageBytes) :
    Memory.read (Memory.write m a v) x = if x = a then v else Memory.read m x := by
  rw [Memory.write, if_pos lt]
  exact Memory.read_insert x h

/-- Writes of consecutive bytes keep the canonical form. -/
theorem Memory.wf_writeAll (bytes : List Byte) : ∀ {m : List Host.Cell} (a : Nat),
    Memory.wf m = true → Memory.wf (Memory.writeAll m a bytes) = true := by
  induction bytes with
  | nil => intro m a h; exact h
  | cons v rest ih => intro m a h; exact ih (a + 1) (Memory.wf_write a v h)

/-- Image memory at reset is canonical. -/
theorem Memory.wf_nil : Memory.wf [] = true := rfl

end Sys2Proof.Machine
end

