-- ==== Sys2Proof/Laws/State.lean ====
section
/-! SUPPORT. What each update of the state leaves and sets, one lemma per field, so that no later proof
unfolds a record update. -/

namespace Sys2Proof.Machine

/-! ## Reading a segment, its lines and an entry after an update -/

@[simp] theorem State.setSeg_seg_same (s : State) (g : Seg) (x : Segment) :
    (s.setSeg g x).seg g = x := by
  cases g <;> rfl

@[simp] theorem State.setSeg_seg_other (s : State) (g h : Seg) (x : Segment) (ne : h ≠ g) :
    (s.setSeg g x).seg h = s.seg h := by
  cases g <;> cases h <;> simp_all [State.setSeg, State.seg]

@[simp] theorem State.setSeg_seg_self (s : State) (g : Seg) : s.setSeg g (s.seg g) = s := by
  cases g <;> rfl

@[simp] theorem State.setSeg_setSeg (s : State) (g : Seg) (x y : Segment) :
    (s.setSeg g x).setSeg g y = s.setSeg g y := by
  cases g <;> rfl

@[simp] theorem State.setSeg_lines (s : State) (g h : Seg) (x : Segment) :
    (s.setSeg g x).lines h = s.lines h := by
  cases g <;> cases h <;> rfl

@[simp] theorem State.setSeg_entry (s : State) (g : Seg) (x : Segment) (k : Fin 16) :
    (s.setSeg g x).entry k = s.entry k := by
  cases g <;> rfl

@[simp] theorem State.setLines_seg (s : State) (g h : Seg) (l : Lines) :
    (s.setLines g l).seg h = s.seg h := by
  cases g <;> cases h <;> rfl

@[simp] theorem State.setLines_lines_same (s : State) (g : Seg) (l : Lines) :
    (s.setLines g l).lines g = l := by
  cases g <;> rfl

@[simp] theorem State.setLines_lines_other (s : State) (g h : Seg) (l : Lines) (ne : h ≠ g) :
    (s.setLines g l).lines h = s.lines h := by
  cases g <;> cases h <;> simp_all [State.setLines, State.lines]

@[simp] theorem State.setLines_entry (s : State) (g : Seg) (l : Lines) (k : Fin 16) :
    (s.setLines g l).entry k = s.entry k := by
  cases g <;> rfl

@[simp] theorem State.setEntry_entry_same (s : State) (k : Fin 16) (e : Entry) :
    (s.setEntry k e).entry k = e := by
  simp [State.setEntry, State.entry]

@[simp] theorem State.setEntry_entry_other (s : State) (k j : Fin 16) (e : Entry) (ne : j ≠ k) :
    (s.setEntry k e).entry j = s.entry j := by
  have h : k.val ≠ j.val := fun h => ne (Fin.ext h.symm)
  simp [State.setEntry, State.entry, h]

theorem State.setEntry_entry (s : State) (k j : Fin 16) (e : Entry) :
    (s.setEntry k e).entry j = if j = k then e else s.entry j := by
  by_cases h : j = k
  · subst h; simp
  · simp [h]

theorem State.setSeg_seg (s : State) (g h : Seg) (x : Segment) :
    (s.setSeg g x).seg h = if h = g then x else s.seg h := by
  by_cases e : h = g
  · subst e; simp
  · simp [e]

@[simp] theorem State.setEntry_seg (s : State) (k : Fin 16) (e : Entry) (g : Seg) :
    (s.setEntry k e).seg g = s.seg g := by
  cases g <;> rfl

@[simp] theorem State.setEntry_lines (s : State) (k : Fin 16) (e : Entry) (g : Seg) :
    (s.setEntry k e).lines g = s.lines g := by
  cases g <;> rfl

@[simp] theorem State.post_seg (s : State) (k : EventKind) (g : Seg) :
    (s.post k).seg g = s.seg g := by
  cases g <;> rfl

@[simp] theorem State.post_lines (s : State) (k : EventKind) (g : Seg) :
    (s.post k).lines g = s.lines g := by
  cases g <;> rfl

@[simp] theorem State.post_entry (s : State) (k : EventKind) (j : Fin 16) :
    (s.post k).entry j = s.entry j := rfl

@[simp] theorem State.complete_seg (s : State) (r : ResultCode) (g : Seg) :
    (s.complete r).seg g = s.seg g := by
  cases g <;> rfl

@[simp] theorem State.complete_lines (s : State) (r : ResultCode) (g : Seg) :
    (s.complete r).lines g = s.lines g := by
  cases g <;> rfl

@[simp] theorem State.complete_entry (s : State) (r : ResultCode) (j : Fin 16) :
    (s.complete r).entry j = s.entry j := rfl

@[simp] theorem State.writeResults_seg (s : State) (i : Nat) (l : List Byte) (g : Seg) :
    (s.writeResults i l).seg g = s.seg g := by
  cases g <;> rfl

@[simp] theorem State.writeResults_lines (s : State) (i : Nat) (l : List Byte) (g : Seg) :
    (s.writeResults i l).lines g = s.lines g := by
  cases g <;> rfl

@[simp] theorem State.writeResults_entry (s : State) (i : Nat) (l : List Byte) (j : Fin 16) :
    (s.writeResults i l).entry j = s.entry j := rfl

@[simp] theorem State.await_seg (s : State) (h : Seg) (v : Held) (g : Seg) :
    (s.await h v).seg g = s.seg g := by
  cases g <;> rfl

@[simp] theorem State.await_lines (s : State) (h : Seg) (v : Held) (g : Seg) :
    (s.await h v).lines g = s.lines g := by
  cases g <;> rfl

@[simp] theorem State.await_entry (s : State) (h : Seg) (v : Held) (j : Fin 16) :
    (s.await h v).entry j = s.entry j := rfl

@[simp] theorem State.putImage_seg (s : State) (k : Fin 16) (p : Byte) (l : List Byte) (g : Seg) :
    (s.putImage k p l).seg g = s.seg g := by
  cases g <;> rfl

@[simp] theorem State.putImage_lines (s : State) (k : Fin 16) (p : Byte) (l : List Byte) (g : Seg) :
    (s.putImage k p l).lines g = s.lines g := by
  cases g <;> rfl

@[simp] theorem State.putImage_entry (s : State) (k : Fin 16) (p : Byte) (l : List Byte) (j : Fin 16) :
    (s.putImage k p l).entry j = s.entry j := rfl

@[simp] theorem State.discardRecords_seg (s : State) (h : Seg) (g : Seg) :
    (s.discardRecords h).seg g = s.seg g := by
  cases g <;> rfl

@[simp] theorem State.discardRecords_lines (s : State) (h : Seg) (g : Seg) :
    (s.discardRecords h).lines g = s.lines g := by
  cases g <;> rfl

@[simp] theorem State.discardRecords_entry (s : State) (h : Seg) (j : Fin 16) :
    (s.discardRecords h).entry j = s.entry j := rfl

@[simp] theorem State.setHost_seg (s : State) (h : HostState) (g : Seg) :
    (s.setHost h).seg g = s.seg g := by
  cases g <;> rfl

@[simp] theorem State.setHost_lines (s : State) (h : HostState) (g : Seg) :
    (s.setHost h).lines g = s.lines g := by
  cases g <;> rfl

@[simp] theorem State.setHost_entry (s : State) (h : HostState) (j : Fin 16) :
    (s.setHost h).entry j = s.entry j := rfl

/-! ## The fields each update leaves as they were -/

@[simp] theorem State.setSeg_inReset (s : State) (g : Seg) (x : Segment) : (s.setSeg g x).inReset = s.inReset := by
  cases g <;> rfl

@[simp] theorem State.setSeg_linesA (s : State) (g : Seg) (x : Segment) : (s.setSeg g x).linesA = s.linesA := by
  cases g <;> rfl

@[simp] theorem State.setSeg_linesB (s : State) (g : Seg) (x : Segment) : (s.setSeg g x).linesB = s.linesB := by
  cases g <;> rfl

@[simp] theorem State.setSeg_vtt (s : State) (g : Seg) (x : Segment) : (s.setSeg g x).vtt = s.vtt := by
  cases g <;> rfl

@[simp] theorem State.setSeg_image (s : State) (g : Seg) (x : Segment) : (s.setSeg g x).image = s.image := by
  cases g <;> rfl

@[simp] theorem State.setSeg_pool (s : State) (g : Seg) (x : Segment) : (s.setSeg g x).pool = s.pool := by
  cases g <;> rfl

@[simp] theorem State.setSeg_queue (s : State) (g : Seg) (x : Segment) : (s.setSeg g x).queue = s.queue := by
  cases g <;> rfl

@[simp] theorem State.setSeg_dru (s : State) (g : Seg) (x : Segment) : (s.setSeg g x).dru = s.dru := by
  cases g <;> rfl

@[simp] theorem State.setSeg_engine (s : State) (g : Seg) (x : Segment) : (s.setSeg g x).engine = s.engine := by
  cases g <;> rfl

@[simp] theorem State.setSeg_events (s : State) (g : Seg) (x : Segment) : (s.setSeg g x).events = s.events := by
  cases g <;> rfl

@[simp] theorem State.setSeg_window (s : State) (g : Seg) (x : Segment) : (s.setSeg g x).window = s.window := by
  cases g <;> rfl

@[simp] theorem State.setSeg_pending (s : State) (g : Seg) (x : Segment) : (s.setSeg g x).pending = s.pending := by
  cases g <;> rfl

@[simp] theorem State.setLines_inReset (s : State) (g : Seg) (l : Lines) : (s.setLines g l).inReset = s.inReset := by
  cases g <;> rfl

@[simp] theorem State.setLines_segA (s : State) (g : Seg) (l : Lines) : (s.setLines g l).segA = s.segA := by
  cases g <;> rfl

@[simp] theorem State.setLines_segB (s : State) (g : Seg) (l : Lines) : (s.setLines g l).segB = s.segB := by
  cases g <;> rfl

@[simp] theorem State.setLines_vtt (s : State) (g : Seg) (l : Lines) : (s.setLines g l).vtt = s.vtt := by
  cases g <;> rfl

@[simp] theorem State.setLines_image (s : State) (g : Seg) (l : Lines) : (s.setLines g l).image = s.image := by
  cases g <;> rfl

@[simp] theorem State.setLines_pool (s : State) (g : Seg) (l : Lines) : (s.setLines g l).pool = s.pool := by
  cases g <;> rfl

@[simp] theorem State.setLines_queue (s : State) (g : Seg) (l : Lines) : (s.setLines g l).queue = s.queue := by
  cases g <;> rfl

@[simp] theorem State.setLines_dru (s : State) (g : Seg) (l : Lines) : (s.setLines g l).dru = s.dru := by
  cases g <;> rfl

@[simp] theorem State.setLines_engine (s : State) (g : Seg) (l : Lines) : (s.setLines g l).engine = s.engine := by
  cases g <;> rfl

@[simp] theorem State.setLines_events (s : State) (g : Seg) (l : Lines) : (s.setLines g l).events = s.events := by
  cases g <;> rfl

@[simp] theorem State.setLines_window (s : State) (g : Seg) (l : Lines) : (s.setLines g l).window = s.window := by
  cases g <;> rfl

@[simp] theorem State.setLines_pending (s : State) (g : Seg) (l : Lines) : (s.setLines g l).pending = s.pending := by
  cases g <;> rfl

@[simp] theorem State.setEntry_inReset (s : State) (k : Fin 16) (e : Entry) : (s.setEntry k e).inReset = s.inReset :=
  rfl

@[simp] theorem State.setEntry_linesA (s : State) (k : Fin 16) (e : Entry) : (s.setEntry k e).linesA = s.linesA :=
  rfl

@[simp] theorem State.setEntry_linesB (s : State) (k : Fin 16) (e : Entry) : (s.setEntry k e).linesB = s.linesB :=
  rfl

@[simp] theorem State.setEntry_segA (s : State) (k : Fin 16) (e : Entry) : (s.setEntry k e).segA = s.segA :=
  rfl

@[simp] theorem State.setEntry_segB (s : State) (k : Fin 16) (e : Entry) : (s.setEntry k e).segB = s.segB :=
  rfl

@[simp] theorem State.setEntry_image (s : State) (k : Fin 16) (e : Entry) : (s.setEntry k e).image = s.image :=
  rfl

@[simp] theorem State.setEntry_pool (s : State) (k : Fin 16) (e : Entry) : (s.setEntry k e).pool = s.pool :=
  rfl

@[simp] theorem State.setEntry_queue (s : State) (k : Fin 16) (e : Entry) : (s.setEntry k e).queue = s.queue :=
  rfl

@[simp] theorem State.setEntry_dru (s : State) (k : Fin 16) (e : Entry) : (s.setEntry k e).dru = s.dru :=
  rfl

@[simp] theorem State.setEntry_engine (s : State) (k : Fin 16) (e : Entry) : (s.setEntry k e).engine = s.engine :=
  rfl

@[simp] theorem State.setEntry_events (s : State) (k : Fin 16) (e : Entry) : (s.setEntry k e).events = s.events :=
  rfl

@[simp] theorem State.setEntry_window (s : State) (k : Fin 16) (e : Entry) : (s.setEntry k e).window = s.window :=
  rfl

@[simp] theorem State.setEntry_pending (s : State) (k : Fin 16) (e : Entry) : (s.setEntry k e).pending = s.pending :=
  rfl

@[simp] theorem State.post_inReset (s : State) (k : EventKind) : (s.post k).inReset = s.inReset :=
  rfl

@[simp] theorem State.post_linesA (s : State) (k : EventKind) : (s.post k).linesA = s.linesA :=
  rfl

@[simp] theorem State.post_linesB (s : State) (k : EventKind) : (s.post k).linesB = s.linesB :=
  rfl

@[simp] theorem State.post_segA (s : State) (k : EventKind) : (s.post k).segA = s.segA :=
  rfl

@[simp] theorem State.post_segB (s : State) (k : EventKind) : (s.post k).segB = s.segB :=
  rfl

@[simp] theorem State.post_vtt (s : State) (k : EventKind) : (s.post k).vtt = s.vtt :=
  rfl

@[simp] theorem State.post_image (s : State) (k : EventKind) : (s.post k).image = s.image :=
  rfl

@[simp] theorem State.post_pool (s : State) (k : EventKind) : (s.post k).pool = s.pool :=
  rfl

@[simp] theorem State.post_queue (s : State) (k : EventKind) : (s.post k).queue = s.queue :=
  rfl

@[simp] theorem State.post_dru (s : State) (k : EventKind) : (s.post k).dru = s.dru :=
  rfl

@[simp] theorem State.post_engine (s : State) (k : EventKind) : (s.post k).engine = s.engine :=
  rfl

@[simp] theorem State.post_window (s : State) (k : EventKind) : (s.post k).window = s.window :=
  rfl

@[simp] theorem State.post_pending (s : State) (k : EventKind) : (s.post k).pending = s.pending :=
  rfl

@[simp] theorem State.complete_inReset (s : State) (r : ResultCode) : (s.complete r).inReset = s.inReset :=
  rfl

@[simp] theorem State.complete_linesA (s : State) (r : ResultCode) : (s.complete r).linesA = s.linesA :=
  rfl

@[simp] theorem State.complete_linesB (s : State) (r : ResultCode) : (s.complete r).linesB = s.linesB :=
  rfl

@[simp] theorem State.complete_segA (s : State) (r : ResultCode) : (s.complete r).segA = s.segA :=
  rfl

@[simp] theorem State.complete_segB (s : State) (r : ResultCode) : (s.complete r).segB = s.segB :=
  rfl

@[simp] theorem State.complete_vtt (s : State) (r : ResultCode) : (s.complete r).vtt = s.vtt :=
  rfl

@[simp] theorem State.complete_image (s : State) (r : ResultCode) : (s.complete r).image = s.image :=
  rfl

@[simp] theorem State.complete_pool (s : State) (r : ResultCode) : (s.complete r).pool = s.pool :=
  rfl

@[simp] theorem State.complete_queue (s : State) (r : ResultCode) : (s.complete r).queue = s.queue :=
  rfl

@[simp] theorem State.complete_dru (s : State) (r : ResultCode) : (s.complete r).dru = s.dru :=
  rfl

@[simp] theorem State.complete_window (s : State) (r : ResultCode) : (s.complete r).window = s.window :=
  rfl

@[simp] theorem State.complete_pending (s : State) (r : ResultCode) : (s.complete r).pending = s.pending :=
  rfl

@[simp] theorem State.writeResults_inReset (s : State) (i : Nat) (l : List Byte) : (s.writeResults i l).inReset = s.inReset :=
  rfl

@[simp] theorem State.writeResults_linesA (s : State) (i : Nat) (l : List Byte) : (s.writeResults i l).linesA = s.linesA :=
  rfl

@[simp] theorem State.writeResults_linesB (s : State) (i : Nat) (l : List Byte) : (s.writeResults i l).linesB = s.linesB :=
  rfl

@[simp] theorem State.writeResults_segA (s : State) (i : Nat) (l : List Byte) : (s.writeResults i l).segA = s.segA :=
  rfl

@[simp] theorem State.writeResults_segB (s : State) (i : Nat) (l : List Byte) : (s.writeResults i l).segB = s.segB :=
  rfl

@[simp] theorem State.writeResults_vtt (s : State) (i : Nat) (l : List Byte) : (s.writeResults i l).vtt = s.vtt :=
  rfl

@[simp] theorem State.writeResults_image (s : State) (i : Nat) (l : List Byte) : (s.writeResults i l).image = s.image :=
  rfl

@[simp] theorem State.writeResults_pool (s : State) (i : Nat) (l : List Byte) : (s.writeResults i l).pool = s.pool :=
  rfl

@[simp] theorem State.writeResults_queue (s : State) (i : Nat) (l : List Byte) : (s.writeResults i l).queue = s.queue :=
  rfl

@[simp] theorem State.writeResults_dru (s : State) (i : Nat) (l : List Byte) : (s.writeResults i l).dru = s.dru :=
  rfl

@[simp] theorem State.writeResults_events (s : State) (i : Nat) (l : List Byte) : (s.writeResults i l).events = s.events :=
  rfl

@[simp] theorem State.writeResults_window (s : State) (i : Nat) (l : List Byte) : (s.writeResults i l).window = s.window :=
  rfl

@[simp] theorem State.writeResults_pending (s : State) (i : Nat) (l : List Byte) : (s.writeResults i l).pending = s.pending :=
  rfl

@[simp] theorem State.await_inReset (s : State) (g : Seg) (h : Held) : (s.await g h).inReset = s.inReset :=
  rfl

@[simp] theorem State.await_linesA (s : State) (g : Seg) (h : Held) : (s.await g h).linesA = s.linesA :=
  rfl

@[simp] theorem State.await_linesB (s : State) (g : Seg) (h : Held) : (s.await g h).linesB = s.linesB :=
  rfl

@[simp] theorem State.await_segA (s : State) (g : Seg) (h : Held) : (s.await g h).segA = s.segA :=
  rfl

@[simp] theorem State.await_segB (s : State) (g : Seg) (h : Held) : (s.await g h).segB = s.segB :=
  rfl

@[simp] theorem State.await_vtt (s : State) (g : Seg) (h : Held) : (s.await g h).vtt = s.vtt :=
  rfl

@[simp] theorem State.await_image (s : State) (g : Seg) (h : Held) : (s.await g h).image = s.image :=
  rfl

@[simp] theorem State.await_pool (s : State) (g : Seg) (h : Held) : (s.await g h).pool = s.pool :=
  rfl

@[simp] theorem State.await_queue (s : State) (g : Seg) (h : Held) : (s.await g h).queue = s.queue :=
  rfl

@[simp] theorem State.await_dru (s : State) (g : Seg) (h : Held) : (s.await g h).dru = s.dru :=
  rfl

@[simp] theorem State.await_events (s : State) (g : Seg) (h : Held) : (s.await g h).events = s.events :=
  rfl

@[simp] theorem State.await_window (s : State) (g : Seg) (h : Held) : (s.await g h).window = s.window :=
  rfl

@[simp] theorem State.await_pending (s : State) (g : Seg) (h : Held) : (s.await g h).pending = s.pending :=
  rfl

@[simp] theorem State.putImage_inReset (s : State) (k : Fin 16) (p : Byte) (l : List Byte) : (s.putImage k p l).inReset = s.inReset :=
  rfl

@[simp] theorem State.putImage_linesA (s : State) (k : Fin 16) (p : Byte) (l : List Byte) : (s.putImage k p l).linesA = s.linesA :=
  rfl

@[simp] theorem State.putImage_linesB (s : State) (k : Fin 16) (p : Byte) (l : List Byte) : (s.putImage k p l).linesB = s.linesB :=
  rfl

@[simp] theorem State.putImage_segA (s : State) (k : Fin 16) (p : Byte) (l : List Byte) : (s.putImage k p l).segA = s.segA :=
  rfl

@[simp] theorem State.putImage_segB (s : State) (k : Fin 16) (p : Byte) (l : List Byte) : (s.putImage k p l).segB = s.segB :=
  rfl

@[simp] theorem State.putImage_vtt (s : State) (k : Fin 16) (p : Byte) (l : List Byte) : (s.putImage k p l).vtt = s.vtt :=
  rfl

@[simp] theorem State.putImage_pool (s : State) (k : Fin 16) (p : Byte) (l : List Byte) : (s.putImage k p l).pool = s.pool :=
  rfl

@[simp] theorem State.putImage_queue (s : State) (k : Fin 16) (p : Byte) (l : List Byte) : (s.putImage k p l).queue = s.queue :=
  rfl

@[simp] theorem State.putImage_dru (s : State) (k : Fin 16) (p : Byte) (l : List Byte) : (s.putImage k p l).dru = s.dru :=
  rfl

@[simp] theorem State.putImage_engine (s : State) (k : Fin 16) (p : Byte) (l : List Byte) : (s.putImage k p l).engine = s.engine :=
  rfl

@[simp] theorem State.putImage_events (s : State) (k : Fin 16) (p : Byte) (l : List Byte) : (s.putImage k p l).events = s.events :=
  rfl

@[simp] theorem State.putImage_window (s : State) (k : Fin 16) (p : Byte) (l : List Byte) : (s.putImage k p l).window = s.window :=
  rfl

@[simp] theorem State.putImage_pending (s : State) (k : Fin 16) (p : Byte) (l : List Byte) : (s.putImage k p l).pending = s.pending :=
  rfl

@[simp] theorem State.discardRecords_inReset (s : State) (g : Seg) : (s.discardRecords g).inReset = s.inReset :=
  rfl

@[simp] theorem State.discardRecords_linesA (s : State) (g : Seg) : (s.discardRecords g).linesA = s.linesA :=
  rfl

@[simp] theorem State.discardRecords_linesB (s : State) (g : Seg) : (s.discardRecords g).linesB = s.linesB :=
  rfl

@[simp] theorem State.discardRecords_segA (s : State) (g : Seg) : (s.discardRecords g).segA = s.segA :=
  rfl

@[simp] theorem State.discardRecords_segB (s : State) (g : Seg) : (s.discardRecords g).segB = s.segB :=
  rfl

@[simp] theorem State.discardRecords_vtt (s : State) (g : Seg) : (s.discardRecords g).vtt = s.vtt :=
  rfl

@[simp] theorem State.discardRecords_image (s : State) (g : Seg) : (s.discardRecords g).image = s.image :=
  rfl

@[simp] theorem State.discardRecords_queue (s : State) (g : Seg) : (s.discardRecords g).queue = s.queue :=
  rfl

@[simp] theorem State.discardRecords_dru (s : State) (g : Seg) : (s.discardRecords g).dru = s.dru :=
  rfl

@[simp] theorem State.discardRecords_engine (s : State) (g : Seg) : (s.discardRecords g).engine = s.engine :=
  rfl

@[simp] theorem State.discardRecords_events (s : State) (g : Seg) : (s.discardRecords g).events = s.events :=
  rfl

@[simp] theorem State.discardRecords_window (s : State) (g : Seg) : (s.discardRecords g).window = s.window :=
  rfl

@[simp] theorem State.discardRecords_pending (s : State) (g : Seg) : (s.discardRecords g).pending = s.pending :=
  rfl

@[simp] theorem State.setHost_inReset (s : State) (h : HostState) : (s.setHost h).inReset = s.inReset :=
  rfl

@[simp] theorem State.setHost_linesA (s : State) (h : HostState) : (s.setHost h).linesA = s.linesA :=
  rfl

@[simp] theorem State.setHost_linesB (s : State) (h : HostState) : (s.setHost h).linesB = s.linesB :=
  rfl

@[simp] theorem State.setHost_segA (s : State) (h : HostState) : (s.setHost h).segA = s.segA :=
  rfl

@[simp] theorem State.setHost_segB (s : State) (h : HostState) : (s.setHost h).segB = s.segB :=
  rfl

@[simp] theorem State.setHost_vtt (s : State) (h : HostState) : (s.setHost h).vtt = s.vtt :=
  rfl

@[simp] theorem State.setHost_image (s : State) (h : HostState) : (s.setHost h).image = s.image :=
  rfl

@[simp] theorem State.setHost_pool (s : State) (h : HostState) : (s.setHost h).pool = s.pool :=
  rfl

@[simp] theorem State.setHost_queue (s : State) (h : HostState) : (s.setHost h).queue = s.queue :=
  rfl

@[simp] theorem State.setHost_dru (s : State) (h : HostState) : (s.setHost h).dru = s.dru :=
  rfl

@[simp] theorem State.setHost_engine (s : State) (h : HostState) : (s.setHost h).engine = s.engine :=
  rfl

@[simp] theorem State.setHost_window (s : State) (h : HostState) : (s.setHost h).window = s.window :=
  rfl

@[simp] theorem State.setHost_pending (s : State) (h : HostState) : (s.setHost h).pending = s.pending :=
  rfl

@[simp] theorem State.endRead_inReset (s : State) : s.endRead.inReset = s.inReset :=
  rfl

@[simp] theorem State.endRead_linesA (s : State) : s.endRead.linesA = s.linesA :=
  rfl

@[simp] theorem State.endRead_linesB (s : State) : s.endRead.linesB = s.linesB :=
  rfl

@[simp] theorem State.endRead_segA (s : State) : s.endRead.segA = s.segA :=
  rfl

@[simp] theorem State.endRead_segB (s : State) : s.endRead.segB = s.segB :=
  rfl

@[simp] theorem State.endRead_vtt (s : State) : s.endRead.vtt = s.vtt :=
  rfl

@[simp] theorem State.endRead_image (s : State) : s.endRead.image = s.image :=
  rfl

@[simp] theorem State.endRead_pool (s : State) : s.endRead.pool = s.pool :=
  rfl

@[simp] theorem State.endRead_queue (s : State) : s.endRead.queue = s.queue :=
  rfl

@[simp] theorem State.endRead_dru (s : State) : s.endRead.dru = s.dru :=
  rfl

@[simp] theorem State.endRead_engine (s : State) : s.endRead.engine = s.engine :=
  rfl

@[simp] theorem State.endRead_events (s : State) : s.endRead.events = s.events :=
  rfl

@[simp] theorem State.endRead_pending (s : State) : s.endRead.pending = s.pending :=
  rfl

@[simp] theorem State.endRead_seg (s : State) (g : Seg) : s.endRead.seg g = s.seg g := by
  cases g <;> rfl

@[simp] theorem State.endRead_lines (s : State) (g : Seg) : s.endRead.lines g = s.lines g := by
  cases g <;> rfl

@[simp] theorem State.endRead_entry (s : State) (k : Fin 16) : s.endRead.entry k = s.entry k :=
  rfl

/-! ## The fields each update sets -/

@[simp] theorem State.endRead_window (s : State) :
    s.endRead.window = { s.window with dataOut := none } :=
  rfl

@[simp] theorem State.setEntry_vtt (s : State) (k : Fin 16) (e : Entry) :
    (s.setEntry k e).vtt = s.vtt.set k e :=
  rfl

@[simp] theorem State.post_events (s : State) (k : EventKind) :
    (s.post k).events = s.events.post k :=
  rfl

@[simp] theorem State.complete_events (s : State) (r : ResultCode) :
    (s.complete r).events = s.events.post .commandDone :=
  rfl

@[simp] theorem State.complete_engine (s : State) (r : ResultCode) :
    (s.complete r).engine = { s.engine with state := .idle, result := r } :=
  rfl

@[simp] theorem State.writeResults_engine (s : State) (i : Nat) (l : List Byte) :
    (s.writeResults i l).engine = { s.engine with params := s.engine.params.putAll i l } :=
  rfl

@[simp] theorem State.await_engine (s : State) (g : Seg) (h : Held) :
    (s.await g h).engine = { s.engine with state := .waiting g h } :=
  rfl

@[simp] theorem State.putImage_image (s : State) (k : Fin 16) (p : Byte) (l : List Byte) :
    (s.putImage k p l).image = Memory.writeAll s.image ((s.entry k).base + p.toNat) l :=
  rfl

@[simp] theorem State.discardRecords_pool (s : State) (g : Seg) :
    (s.discardRecords g).pool = (s.pool.release (s.pool.reserved g)).setReserved g 0 :=
  rfl

@[simp] theorem State.setHost_events (s : State) (h : HostState) :
    (s.setHost h).events = s.events.setHost h :=
  rfl

end Sys2Proof.Machine
end

