-- ==== Sys2Proof/Laws/Ops.lean ====
section
/-! SUPPORT. For each shared operation, once, everything it can do: the provers cite these and do not
unfold the operation. -/

namespace Sys2Proof.Machine

/-! ## Events and completion -/

/-- A judged Event Unit drives its outputs by their conditions and changes nothing else. -/
theorem Events.judge_eq (e : Events) :
    e.judge.pending = e.pending ∧ e.judge.intEnable = e.intEnable ∧ e.judge.wakeEnable = e.wakeEnable
    ∧ e.judge.host = e.host ∧ e.judge.intLow = e.judge.intCondition
    ∧ e.judge.wakeHigh = e.judge.wakeCondition :=
  ⟨rfl, rfl, rfl, rfl, rfl, rfl⟩

/-- A posting changes the Event Unit only. -/
theorem State.post_eq (s : State) (k : EventKind) :
    s.post k = { s with events := s.events.post k } := rfl

/-- A completion changes the engine's state and result and the Event Unit only. -/
theorem State.complete_eq (s : State) (r : ResultCode) :
    s.complete r = { s with engine := { s.engine with state := .idle, result := r }
                            events := s.events.post .commandDone } := rfl

/-! ## Completion checks -/

/-- The completion check of the held code of a RUNNING engine is taken. -/
theorem State.atCheck_of_running {s : State} {code : Byte} (check : State → State)
    (reset : s.inReset = false) (running : s.engine.state = .running) (held : s.engine.code = code) :
    s.atCheck code check = check s := by
  simp [State.atCheck, State.checkArises, reset, running, held]

/-- A completion check is taken whole, with its code held RUNNING, or nothing happens. -/
theorem State.atCheck_cases (s : State) (code : Byte) (check : State → State) :
    (s.inReset = false ∧ s.engine.state = .running ∧ s.engine.code = code
      ∧ s.atCheck code check = check s)
    ∨ s.atCheck code check = s := by
  unfold State.atCheck
  split
  · rename_i h
    simp only [State.checkArises, Bool.and_eq_true, Bool.not_eq_true', decide_eq_true_eq] at h
    exact .inl ⟨h.1.1, h.1.2, h.2, rfl⟩
  · exact .inr rfl

/-- An index parameter of 16 or more names no entry (R6). -/
theorem indexOf_eq_none {p : Params} (h : 16 ≤ p[0].toNat) : indexOf p = none := by
  unfold indexOf
  rw [dif_neg (by omega)]

/-- An index parameter below 16 names its entry. -/
theorem indexOf_eq_some {p : Params} {k : Fin 16} (h : p[0].toNat = k.val) : indexOf p = some k := by
  unfold indexOf
  rw [dif_pos (by omega)]
  congr

/-! ## The table -/

/-- What the lookup's answers say (R1). -/
theorem State.lookup_cases (s : State) (g : Seg) (a : BusAddress) :
    (∃ k, s.lookup g a = .hit k ∧ (s.entry k).life = .active ∧ (s.entry k).segment = g
      ∧ (s.entry k).matchesAddress a = true)
    ∨ (∃ k, s.lookup g a = .closing k ∧ (s.entry k).life = .closing ∧ (s.entry k).segment = g
      ∧ (s.entry k).matchesAddress a = true)
    ∨ (s.lookup g a = .none ∧ ∀ k, (s.entry k).onBus = true → (s.entry k).segment = g →
      (s.entry k).matchesAddress a = false) := by
  have all : ∀ k : Fin 16, k ∈ allTargets := by decide
  unfold State.lookup
  split
  · rename_i k found
    have h := List.find?_some found
    simp only [Bool.and_eq_true, beq_iff_eq] at h
    obtain ⟨⟨bus, seg⟩, hit⟩ := h
    by_cases active : (s.entry k).life = .active
    · exact .inl ⟨k, by simp [active], active, seg, hit⟩
    · refine .inr (.inl ⟨k, by simp [active], ?_, seg, hit⟩)
      simpa [Entry.onBus, active] using bus
  · rename_i nothing
    refine .inr (.inr ⟨rfl, fun k bus seg => ?_⟩)
    rw [List.find?_eq_none] at nothing
    have h := nothing k (all k)
    simpa [bus, seg] using h

/-- An entry is bound exactly when its segment's transaction is with it (R9). -/
theorem State.entryBound_iff (s : State) (k : Fin 16) :
    s.entryBound k = true ↔ ∃ t, (s.seg (s.entry k).segment).txn = some t ∧ t.target = k := by
  unfold State.entryBound
  cases (s.seg (s.entry k).segment).txn <;> simp

/-! ## The end of a transaction -/

/-- The end reaches a command that waits for this segment, which takes its effect and completes OK, and
no other (R146). -/
theorem State.completeWaiting_cases (s : State) (g : Seg) :
    (∃ h, s.engine.state = .waiting g h ∧ s.completeWaiting g = (s.applyHeld g h).complete .ok)
    ∨ ((∀ h, s.engine.state ≠ .waiting g h) ∧ s.completeWaiting g = s) := by
  unfold State.completeWaiting
  split
  · rename_i awaited h waiting
    by_cases e : awaited = g
    · subst e; exact .inl ⟨h, waiting, by simp⟩
    · refine .inr ⟨fun h' w => ?_, by simp [e]⟩
      rw [waiting] at w; cases w; exact e rfl
  · rename_i idle; exact .inr ⟨fun h w => (by rw [idle] at w; cases w), rfl⟩
  · rename_i running; exact .inr ⟨fun h w => (by rw [running] at w; cases w), rfl⟩

/-- A commit of no open record only returns the reserved count to 0. -/
theorem State.commitRecords_nil (s : State) (g : Seg) (cause : CommitCause) :
    s.commitRecords g cause [] = { s with pool := s.pool.setReserved g 0 } := rfl

/-- The events of a commit are posted on a state that is otherwise left alone. -/
theorem State.postQueueEvents_eq (s : State) (before after : Nat) :
    ∃ e, s.postQueueEvents before after = { s with events := e } := by
  unfold State.postQueueEvents
  dsimp only
  split <;> split <;> exact ⟨_, rfl⟩

/-- Everything a commit changes: the pool, the queue, the data index and the Event Unit. -/
theorem State.commitRecords_eq (s : State) (g : Seg) (cause : CommitCause) (l : List OpenRecord) :
    ∃ index e, s.commitRecords g cause l =
      { s with pool := s.pool.setReserved g 0, queue := InboundQueue.pushAll cause s.queue l
               window := { s.window with dataIndex := index }, events := e } := by
  unfold State.commitRecords
  dsimp only
  split
  · rename_i empty
    rw [List.isEmpty_iff] at empty
    subst empty
    exact ⟨s.window.dataIndex, s.events, rfl⟩
  · obtain ⟨e, h⟩ := State.postQueueEvents_eq
      { s with pool := s.pool.setReserved g 0, queue := InboundQueue.pushAll cause s.queue l
               window := { s.window with
                 dataIndex := if s.queue.records.length = 0 then 0 else s.window.dataIndex } }
      s.queue.records.length (InboundQueue.pushAll cause s.queue l).records.length
    exact ⟨_, e, h⟩

/-- A commit adds as many records as the transaction had open, and keeps the threshold. -/
theorem InboundQueue.pushAll_length (cause : CommitCause) (l : List OpenRecord) :
    ∀ q : InboundQueue, (InboundQueue.pushAll cause q l).records.length
      = q.records.length + l.length := by
  induction l with
  | nil => intro q; rfl
  | cons r l ih =>
    intro q
    simp only [InboundQueue.pushAll, ih, InboundQueue.push, List.length_append, List.length_cons,
      List.length_nil]
    omega

/-- Abandonment of an unbound segment does nothing (R63). -/
theorem State.abandon_of_unbound {s : State} {g : Seg} (after : SegState)
    (h : (s.seg g).txn = none) : s.abandon g after = s := by
  unfold State.abandon
  rw [h]

/-- Abandonment of a bound segment counts, posts and ends the transaction (R63). -/
theorem State.abandon_of_bound {s : State} {g : Seg} {t : Txn} (after : SegState)
    (h : (s.seg g).txn = some t) :
    s.abandon g after = State.endTransaction
      ((s.onSeg g (Segment.count Counters.countAbandoned)).post .transactionAbandoned)
      g t .abandoned after := by
  unfold State.abandon
  rw [h]

/-! ## Bytes -/

/-- A byte in W_DATA is refused for its class, applied, or has to be recorded (R30). -/
theorem State.completeData_cases (s : State) (g : Seg) (t : Txn) :
    s.completeData g t = (s.lowerClock g).refuseByte g t.cutLast
    ∨ s.completeData g t
        = ((s.lowerClock g).applyByte t.target (s.seg g).shift).acceptByte g t.passOver
    ∨ ∃ applied, s.completeData g t = (s.lowerClock g).recordByte g t applied := by
  unfold State.completeData
  dsimp only
  split
  · exact .inl rfl
  · exact .inl rfl
  · exact .inl rfl
  · exact .inr (.inl rfl)
  · exact .inr (.inr ⟨true, rfl⟩)
  · exact .inr (.inr ⟨false, rfl⟩)
  · exact .inr (.inr ⟨false, rfl⟩)

/-- What the choice of a byte's place means (R77, R80). -/
theorem State.recording_cases (s : State) (g : Seg) (t : Txn) :
    (s.recording g t = .extended ∧ ∃ r, t.lastRecord = some r
      ∧ r.extendsTo t.unrecorded (s.entry t.target).pointer = true)
    ∨ (s.recording g t = .opened ∧ s.pool.grants g (s.seg g).config.quota = true)
    ∨ (s.recording g t = .refused ∧ s.pool.grants g (s.seg g).config.quota = false) := by
  unfold State.recording
  dsimp only
  cases last : t.lastRecord with
  | none => cases grants : s.pool.grants g (s.seg g).config.quota <;> simp
  | some r =>
    cases extending : r.extendsTo t.unrecorded (s.entry t.target).pointer
    · cases grants : s.pool.grants g (s.seg g).config.quota <;> simp
    · exact .inl ⟨by simp [extending], r, rfl, extending⟩

/-- A needed byte is sent, sent as fill with its event, or requested (R110). -/
theorem State.needByte_cases (s : State) (g : Seg) (t : Txn) :
    (∃ a b, s.needByte g t = s.onSeg g (Segment.transmit
        { t with position := saturatingInc t.position, ahead := a } b))
    ∨ (∃ b, s.needByte g t = (s.onSeg g fun x => (x.count Counters.countFilled).transmit
        { t with position := saturatingInc t.position, ahead := ReadAhead.empty } b).post
          .deferredFilled)
    ∨ s.needByte g t = s.createRequest g
        { t with position := saturatingInc t.position, ahead := ReadAhead.empty } t.position := by
  unfold State.needByte
  dsimp only
  split
  · exact .inl ⟨_, _, rfl⟩
  · exact .inl ⟨_, _, rfl⟩
  · exact .inr (.inl ⟨_, rfl⟩)
  · exact .inr (.inr rfl)

/-- The number of a new request differs from that of the other segment's request (R113, R114). -/
theorem State.nextSequence_ne (s : State) (g : Seg) (r : Request)
    (h : (s.seg (otherSeg g)).state.request = some r) : s.nextSequence g ≠ r.sequence := by
  unfold State.nextSequence
  rw [h]
  dsimp only
  split
  · rename_i e
    rw [e]
    simp
  · rename_i ne
    exact fun e => ne e.symm

/-- A request that a sequence number names is held by its segment in R_STRETCH. -/
theorem State.requestNumbered_some {s : State} {n : Byte} {g : Seg} {t : Txn} {r : Request}
    (h : s.requestNumbered n = some (g, t, r)) :
    (s.seg g).state = .rStretch t r ∧ r.sequence = n := by
  have held : ∀ {x : Segment} {t r}, x.stretchedOn n = some (t, r) →
      x.state = .rStretch t r ∧ r.sequence = n := by
    intro x t r e
    unfold Segment.stretchedOn at e
    split at e <;> try cases e
    split at e
    · cases e; exact ⟨by assumption, by assumption⟩
    · cases e
  unfold State.requestNumbered at h
  split at h
  · cases h; exact held (by assumption)
  · split at h
    · cases h; exact held (by assumption)
    · cases h

/-- A commit to the answer port delivers, or changes only the Deferred Read Unit (R118). -/
theorem State.commitAnswer_cases (s : State) :
    (∃ g t r, (s.seg g).state = .rStretch t r ∧ r.sequence = s.dru.answerSeq
      ∧ s.commitAnswer = { s.deliver g t r s.dru.staging with
          dru := { s.dru.emptyStaging with lastOutcome := .accepted } })
    ∨ s.commitAnswer = { s with dru := { s.dru.emptyStaging with lastOutcome := s.commitOutcome } } := by
  unfold State.commitAnswer
  dsimp only
  cases outcome : s.commitOutcome <;> dsimp only <;> try exact .inr rfl
  cases named : s.requestNumbered s.dru.answerSeq with
  | none => exact .inr rfl
  | some found =>
    obtain ⟨g, t, r⟩ := found
    obtain ⟨state, number⟩ := State.requestNumbered_some named
    exact .inl ⟨g, t, r, state, number, rfl⟩

/-! ## The window -/

/-- A write while RESET is asserted is disregarded (R183). -/
theorem State.hostWrite_of_inReset {s : State} (location : Location) (value : Byte)
    (h : s.inReset = true) : s.hostWrite location value = s := by
  unfold State.hostWrite
  rw [if_pos h]

/-- A write that is taken reaches its owner with D7 to D0 undriven (R169, R171). -/
theorem State.hostWrite_of_not_inReset {s : State} (location : Location) (value : Byte)
    (h : s.inReset = false) : s.hostWrite location value = s.endRead.takeWrite location value := by
  unfold State.hostWrite
  rw [if_neg (by rw [h]; decide)]

end Sys2Proof.Machine
end

