-- ==== Sys2Proof/WellFormed.lean ====
section
/-! DEFINITION. Which commands are well formed: all of them. The operand types rule out everything that
could be ill formed (a position is below 16, a location below 32, a value is a byte), and no operand of a
row excludes another: a write to any location, with any value, can be one that the part disregards, since
its strobes can make it so (R172). -/

namespace Sys2Proof

/-- The well-formed commands. -/
def Instr.wf : Instr → Bool
  | .start _ => true
  | .stop _ => true
  | .addressByte _ => true
  | .subAddressByte _ => true
  | .writeDataByte _ => true
  | .writeAckBit _ _ => true
  | .byteNeed _ => true
  | .masterAckBit _ _ => true
  | .tick => true
  | .abandonTimerExpiry _ => true
  | .stretchExpiry _ => true
  | .commandIssue _ => true
  | .define => true
  | .enable => true
  | .disable => true
  | .release => true
  | .vtQuery => true
  | .regions => true
  | .imagePut => true
  | .imageGet => true
  | .flush => true
  | .queueConfig => true
  | .segment => true
  | .clearCounters => true
  | .sleep => true
  | .awake => true
  | .reinit => true
  | .unknown => true
  | .abort _ => true
  | .clearCollision _ => true
  | .parameterWrite _ _ => true
  | .pageWrite _ => true
  | .pendingClear _ _ => true
  | .intEnableWrite _ _ => true
  | .wakeEnableWrite _ _ => true
  | .emptyPopClear _ => true
  | .pop _ => true
  | .dataPortRead => true
  | .dataIndexWrite _ => true
  | .answerSeqWrite _ => true
  | .answerDataWrite _ => true
  | .commit => true
  | .clear => true
  | .disregardedWrite _ _ => true
  | .resetAssert => true
  | .resetRelease => true
  | .sclEdge _ _ => true

end Sys2Proof
end

