-- ==== Sys2Proof/Tests/Slice0.lean ====
section
/-! SUPPORT. Tests: the well-formedness smoke test, one or two single-command tests for each row of the
table with expected values from the book, and a witness for the hypotheses of each statement. -/

namespace Sys2Proof.Tests

open Sys2Proof.Machine Sys2Proof.Safety

/-! ## Helpers -/

/-- What a field reads after a command, if it answers a next state. -/
def after {α : Type} (o : Host.Outcome State Fault Refusal) (f : State → α) : Option α :=
  match o with
  | .next s => some (f s)
  | .fault _ => none
  | .refused _ => none

/-- An ACTIVE target on segment A at `$50`, image 0 to 39: POSTED 0 to 9, OPEN 10 to 19, QUEUED 20 to 29,
DEFERRED 36 to 39, and 30 to 35 unmapped. -/
def target : Entry :=
  { life := .active, segment := .A, address := 0x50, mask := 0x7F, base := 0, length := 40, fill := 0xEE
    wrap := .wrap, sleep := .fill, pointer := 0, generation := 1
    regions := [⟨0, 10, .posted⟩, ⟨10, 10, .open_⟩, ⟨20, 10, .queued⟩, ⟨36, 4, .deferred⟩] }

/-- A bound segment A with its abandon timer running. -/
def bound (state : SegState) (clock : ByteClock) (shift : Byte) : Segment :=
  { Segment.reset with state := state, clock := clock, shift := shift, abandonTimer := some 350 }

/-- A segment with no transaction. -/
def free (state : SegState) (clock : ByteClock) (shift : Byte) : Segment :=
  { Segment.reset with state := state, clock := clock, shift := shift }

/-- An open record of entry 0. -/
def record (start : Byte) (data : List Byte) : OpenRecord :=
  { segment := .A, target := 0, generation := 1, address := 0x50, start := start, data := data
    continued := false, cut := false }

/-- A transaction with entry 0 that holds some open records. -/
def txn (direction : Direction) (records : List OpenRecord) : Txn :=
  { target := 0, direction := direction, address := 0x50, position := 0, records := records,
    unrecorded := false, ahead := { next := 0, bytes := [] }, expired := false }

/-- A request of entry 0 for sub-address 36 with some ticks left. -/
def request (remaining : Nat) : Request :=
  { sequence := 0, target := 0, sub := 36, position := 0, remaining := remaining }

/-- A segment in R_STRETCH on that request. -/
def stretched (remaining : Nat) : Segment :=
  { Segment.reset with state := .rStretch (txn .read []) (request remaining), sclLow := true }

/-- Entry 0 with its pointer at a sub-address, a segment A, and the lines of A. -/
def bench (pointer : Byte) (x : Segment) (scl sda : Bool) : State :=
  ((State.reset.setEntry 0 { target with pointer := pointer }).setSeg .A x).setLines .A
    { scl := scl, sda := sda }

/-- The bench with segment A bound for a write that holds one open record in its reserved cell. -/
def writing (pointer : Byte) (clock : ByteClock) (shift : Byte) : State :=
  { bench pointer (bound (.wData (txn .write [record 20 [7]])) clock shift) true true with
    pool := { free := 31, reservedA := 1, reservedB := 0 } }

/-- The engine RUNNING with a code and its first parameters. -/
def running (code : Byte) (params : List Byte) (s : State) : State :=
  { s with engine := { s.engine with
      state := .running, code := code
      latched := Vector.ofFn fun i : Fin 16 => params.getD i.val 0 } }

/-- The engine WAITING for segment A with something held. -/
def waiting (h : Held) (s : State) : State :=
  { s with engine := { s.engine with state := .waiting .A h } }

/-- Entry 0 alone, in a life-cycle state. -/
def alone (life : LifeState) : State := State.reset.setEntry 0 { target with life := life }

/-- A queued record of a segment with a number. -/
def queued (g : Seg) (number : Byte) : QueuedRecord :=
  { body := { record 20 [1, 2] with segment := g }, cause := .stop, number := number }

/-- The part with some records in its queue. -/
def holding (records : List QueuedRecord) : State :=
  { State.reset with
    queue := { State.reset.queue with records := records, counter := 9 }
    pool := { free := 32 - records.length, reservedA := 0, reservedB := 0 } }

/-- The part with a page shown. -/
def showing (page : Fin 4) (s : State) : State := { s with window := { s.window with page := page } }

/-- The part with some bytes staged for a sequence number. -/
def staged (bytes : List Byte) (s : State) : State := { s with dru := { s.dru with staging := bytes } }

/-! ## Well-formedness: there is no check, since the operand types leave nothing ill formed -/

/-- With RD asserted beside WR, a write to POP is a disregarded one (R172), as one to HOST_STATE is (R163). -/
theorem test_wf_accepts_disregarded :
    (Instr.disregardedWrite 0x0F 0x00).wf = true ∧ (Instr.disregardedWrite 0x03 0x01).wf = true := by decide

/-- No word spells a command. -/
theorem test_no_word_spells_a_command : decodeTableWord 32 0xFFFFFFFF = none := rfl

/-! ## The buses and the Time Base -/

/-- R52: a START in IDLE. -/
theorem test_start : after (exec (.start .A) (bench 0 (free .idle (.bits 0) 0) true true))
    (fun s => s.segA.state) = some .address := by decide

/-- R61, R85, R97: a repeated START commits the record with number 0 and posts QUEUE_ARRIVAL. -/
theorem test_start_repeated : after (exec (.start .A) (writing 21 (.ack .dataAcked true) 0))
    (fun s => (s.queue.numbers, s.queue.records.map (·.cause), s.pool.free, s.events.pending))
    = some ([0], [.repeatedStart], 31, 0b10) := by decide

/-- R62: a STOP in the middle of a byte is a framing break. -/
theorem test_stop_mid_byte : after (exec (.stop .A)
      { writing 21 (.bits 2) 0 with linesA := { scl := true, sda := false } })
    (fun s => (s.segA.counters.broken, s.queue.records.map (·.cause), s.segA.state))
    = some (1, [.broken], .idle) := by decide

/-- R46, R60: a first bit not yet settled is disregarded, and the STOP is at a boundary. -/
theorem test_stop_at_first_bit : after (exec (.stop .A)
      { writing 21 (.bits 1) 0 with linesA := { scl := true, sda := false } })
    (fun s => (s.segA.counters.broken, s.queue.records.map (·.cause))) = some (0, [.stop]) := by decide

/-- R52: `$A0` is address `$50` with the write bit. -/
theorem test_address_match : after (exec (.addressByte .A)
      (bench 0 (free .address (.bits 8) 0xA0) true false))
    (fun s => (s.segA.state.txn.map (·.target), s.segA.sdaLow, s.segA.abandonTimer))
    = some (some 0, true, some 350) := by decide

/-- R52: an unmatched address is refused. -/
theorem test_address_refused : after (exec (.addressByte .A)
      (bench 0 (free .address (.bits 8) 0xA2) true false))
    (fun s => (s.segA.state, s.segA.sdaLow)) = some (.ignore, false) := by decide

/-- R29: an out-of-image sub-address is accepted all the same. -/
theorem test_sub_address : after (exec (.subAddressByte .A)
      (bench 7 (bound (.wSubaddr (txn .write [])) (.bits 8) 200) true true))
    (fun s => ((s.entry 0).pointer, s.segA.sdaLow)) = some (200, true) := by decide

/-- R80, 5.8: the byte at 21 extends the record that ends at 20. -/
theorem test_write_data_extends : after (exec (.writeDataByte .A) (writing 21 (.bits 8) 0x55))
    (fun s => (s.segA.state.txn.map fun t => t.records.map (·.data), s.image))
    = some (some [[7, 0x55]], []) := by decide

/-- R55, R83: a byte at the unmapped sub-address 30 is refused and cuts the record. -/
theorem test_write_data_refused : after (exec (.writeDataByte .A) (writing 30 (.bits 8) 0x55))
    (fun s => (s.segA.state.txn.map fun t => t.records.map (·.cut), s.segA.counters.refusedBytes,
      s.events.pending)) = some (some [true], 1, 0) := by decide

/-- R33: length 40 under WRAP, pointer 39 steps to 0. -/
theorem test_write_ack_wraps : after (exec (.writeAckBit .A true)
      { writing 39 (.ack .dataAcked false) 0 with linesA := { scl := false, sda := true } })
    (fun s => (s.entry 0).pointer) = some 0 := by decide

/-- R112: a DEFERRED byte of an AWAKE host is requested, with number 0 and 50 ticks. -/
theorem test_byte_need_requests : after (exec (.byteNeed .A)
      (bench 36 (bound (.rData (txn .read [])) (.ack .address true) 0) true true))
    (fun s => (s.segA.state.request, s.segA.sclLow, s.events.pending, s.dru.sequenceCounter))
    = some (some (request 50), true, 0b10000, 1) := by decide

/-- R28: an unmapped byte is the fill byte. -/
theorem test_byte_need_fills : after (exec (.byteNeed .A)
      (bench 30 (bound (.rData (txn .read [])) (.ack .address true) 0) true true))
    (fun s => (s.segA.sending, s.segA.sdaLow)) = some (0xEE, false) := by decide

/-- R58: a NACK leads to R_DONE, and the pointer steps all the same. -/
theorem test_master_nack : after (exec (.masterAckBit .A true)
      (bench 12 (bound (.rData (txn .read [])) (.ack .transmitted false) 0) false true))
    (fun s => (s.segA.state, (s.entry 0).pointer)) = some (.rDone (txn .read []), 13) := by decide

/-- R179: a tick takes one from the remaining ticks. -/
theorem test_tick_counts : after (exec .tick (bench 36 (stretched 50) false true))
    (fun s => s.segA.state.request.map (·.remaining)) = some (some 49) := by decide

/-- R179: the tick that would bring it to 0 removes the request. -/
theorem test_tick_expires : after (exec .tick (bench 36 (stretched 1) false true))
    (fun s => (s.segA.state.request, s.segA.expiryMemory, s.segA.abandonTimer))
    = some (none, some 0, some 350) := by decide

/-- R65, R88: the expiry discards the open record and counts. -/
theorem test_abandon_expiry : after (exec (.abandonTimerExpiry .A)
      { writing 21 (.bits 3) 0 with segA := { (writing 21 (.bits 3) 0).segA with abandonTimer := some 1 } })
    (fun s => (s.pool.free, s.queue.records, s.segA.counters.abandoned, s.events.pending))
    = some (32, [], 1, 0b100000000) := by decide

/-- R123: the fill byte goes out and STRETCH_EXPIRED is posted. -/
theorem test_stretch_expiry : after (exec (.stretchExpiry .A) (bench 36 (stretched 1) false true))
    (fun s => (s.segA.sending, s.segA.sclLow, s.segA.counters.expired, s.events.pending))
    = some (0xEE, false, 1, 0b1000000) := by decide

/-- R46: the bits come most significant first. -/
theorem test_scl_edge_samples : after (exec (.sclEdge .A (.rise true))
      (bench 0 (free .address (.bits 3) 0b101) false false))
    (fun s => (s.segA.shift, s.segA.clock)) = some (0b1011, .bits 4) := by decide

/-- R48: the third bit of `$20` is 1, for which SDA is left released. -/
theorem test_scl_edge_presents : after (exec (.sclEdge .A .fall)
      (bench 0 { bound (.rData (txn .read [])) (.bits 2) 0 with sending := 0x20, sdaLow := true } true true))
    (fun s => s.segA.sdaLow) = some false := by decide

/-! ## The Command Engine -/

/-- R136: the issue latches the area as it stands. -/
theorem test_issue_latches : after (exec (.commandIssue 0x44)
      { State.reset with engine := { Engine.reset with params := Params.zero.set 3 9 } })
    (fun s => (s.engine.code, s.engine.latched[3], s.engine.state)) = some (0x44, 9, .running) := by decide

/-- R138: a write to CMD while a command is held is a collision. -/
theorem test_issue_collides : after (exec (.commandIssue 0x44) (running 0x40 [] State.reset))
    (fun s => (s.engine.code, s.engine.collision)) = some (0x40, true) := by decide

/-- R10's table: base 1700, length 100 over 1792 to 2047 is OVERLAP. -/
theorem test_define_overlap : after (exec .define (running 0x01
      [1, 0, 0x20, 0x7F, 0x06, 0xA4, 0, 100, 0, 0, 0]
      (State.reset.setEntry 0 { target with base := 1792, length := 256 })))
    (fun s => (s.engine.result, (s.entry 1).life)) = some (.overlap, .free) := by decide

/-- R8, R12: the first definition carries generation 1, written at position 11. -/
theorem test_define_ok : after (exec .define (running 0x01
      [0, 0, 0x50, 0x7C, 0x07, 0x00, 1, 0, 0xFF, 1, 1] State.reset))
    (fun s => (s.engine.result, s.engine.params[11], (s.entry 0).base, (s.entry 0).length,
      (s.entry 0).life)) = some (.ok, 1, 1792, 256, .defined) := by decide

/-- R3's table: `$52` / `$7F` overlaps `$50` / `$7C`. -/
theorem test_enable_conflict : after (exec .enable (running 0x02 [1]
      (((alone .active).setEntry 0 { target with mask := 0x7C }).setEntry 1
        { target with life := .defined, base := 40, address := 0x52 })))
    (fun s => (s.engine.result, (s.entry 1).life)) = some (.conflict, .defined) := by decide

/-- R3's table: `$54` / `$7F` does not. -/
theorem test_enable_ok : after (exec .enable (running 0x02 [1]
      (((alone .active).setEntry 0 { target with mask := 0x7C }).setEntry 1
        { target with life := .defined, base := 40, address := 0x54 })))
    (fun s => (s.engine.result, (s.entry 1).life)) = some (.ok, .active) := by decide

/-- R15: a graceful DISABLE of a bound entry waits. -/
theorem test_disable_waits : after (exec .disable (running 0x03 [0, 0] (writing 21 (.bits 3) 0)))
    (fun s => ((s.entry 0).life, s.engine.state, s.events.pending))
    = some (.closing, .waiting .A (.disable 0), 0) := by decide

/-- R18: a forced one abandons the transaction. -/
theorem test_disable_forces : after (exec .disable (running 0x03 [0, 1] (writing 21 (.bits 3) 0)))
    (fun s => ((s.entry 0).life, s.segA.state, s.pool.free, s.segA.counters.abandoned, s.engine.result))
    = some (.defined, .idle, 32, 1, .ok) := by decide

/-- R20: RELEASE keeps the generation. -/
theorem test_release : after (exec .release (running 0x04 [0] (alone .defined)))
    (fun s => ((s.entry 0).life, (s.entry 0).generation, (s.entry 0).regions)) = some (.free, 1, []) := by
  decide

/-- R21, 8.8: the length byte, fill, flags, pointer, generation and bound flag of part 0. -/
theorem test_query_part_0 : after (exec .vtQuery (running 0x05 [0, 0] (writing 21 (.bits 3) 0)))
    (fun s => ([6, 7, 8, 9, 10, 11].map fun i => s.engine.params.toList.getD i 0))
    = some [40, 0xEE, 0, 21, 1, 1] := by decide

/-- R21, 8.8: the count and the first region of part 1. -/
theorem test_query_part_1 : after (exec .vtQuery (running 0x05 [0, 1] (alone .active)))
    (fun s => s.engine.params.toList.take 7) = some [4, 0, 10, 2, 10, 10, 1] := by decide

/-- R36: the list is stored in order of start. -/
theorem test_regions_sorts : after (exec .regions (running 0x10 [0, 2, 8, 4, 0, 0, 8, 1] (alone .active)))
    (fun s => (s.entry 0).regions) = some [⟨0, 8, .open_⟩, ⟨8, 4, .fixed⟩] := by decide

/-- R35: two regions that share sub-address 8 are refused. -/
theorem test_regions_refuses : after (exec .regions (running 0x10 [0, 2, 8, 4, 0, 0, 9, 1] (alone .active)))
    (fun s => (s.engine.result, (s.entry 0).regions == target.regions)) = some (.badParam, true) := by
  decide

/-- R40: the bytes go to the sub-addresses from the offset on. -/
theorem test_image_put : after (exec .imagePut (running 0x11 [0, 4, 2, 0, 0x11, 0x22] (alone .active)))
    (fun s => s.image) = some [(4, 0x11), (5, 0x22)] := by decide

/-- R41: an ATOMIC put on a bound target waits. -/
theorem test_image_put_waits : after (exec .imagePut (running 0x11 [0, 4, 2, 1, 0x11, 0x22]
      (writing 21 (.bits 3) 0)))
    (fun s => (s.image, s.engine.state)) = some ([], .waiting .A (.imagePut 0 4 [0x11, 0x22])) := by
  decide

/-- R42: the bytes come back in positions 0 on. -/
theorem test_image_get : after (exec .imageGet (running 0x12 [0, 4, 2]
      { alone .active with image := [(5, 0x22)] }))
    (fun s => s.engine.params.toList.take 3) = some [0, 0x22, 0] := by decide

/-- R104: FLUSH of segment A leaves B's record, and the count is written at position 1. -/
theorem test_flush : after (exec .flush (running 0x20 [1]
      (holding [queued .A 6, queued .B 7, queued .A 8])))
    (fun s => (s.queue.numbers, s.pool.free, s.engine.params[1])) = some ([7], 31, 2) := by decide

/-- R98: the depth and the record counter come back. -/
theorem test_queue_config : after (exec .queueConfig (running 0x21 [1] (holding [queued .A 8])))
    (fun s => (s.queue.threshold, s.engine.params[1], s.engine.params[2], s.events.pending))
    = some (1, 1, 9, 1) := by decide

/-- R68: SEGMENT ON on a segment that is OFF. -/
theorem test_segment_on : after (exec .segment (running 0x30 [0, 1, 50, 35, 16] State.reset))
    (fun s => (s.segA.state, s.segB.state)) = some (.idle, .off) := by decide

/-- R67: a quota of 33 is refused. -/
theorem test_segment_refuses : after (exec .segment (running 0x30 [0, 1, 50, 35, 33] State.reset))
    (fun s => (s.engine.result, s.segA.state)) = some (.badParam, .off) := by decide

/-- R70: scope A leaves B's counters. -/
theorem test_clear_counters : after (exec .clearCounters (running 0x31 [1]
      { State.reset with segA := { Segment.reset with counters := ⟨1, 2, 3, 4, 5⟩ }
                         segB := { Segment.reset with counters := ⟨1, 2, 3, 4, 5⟩ } }))
    (fun s => (s.segA.counters, s.segB.counters)) = some (⟨0, 0, 0, 0, 0⟩, ⟨1, 2, 3, 4, 5⟩) := by decide

/-- R164: WAKE rises for the COMMAND_DONE of the SLEEP itself when that is wake-enabled. -/
theorem test_sleep : after (exec .sleep (running 0x40 []
      { State.reset with events := { Events.reset with wakeEnable := 1 } }))
    (fun s => (s.events.host, s.events.wakeHigh)) = some (.asleep, true) := by decide

/-- R165: AWAKE takes WAKE low. -/
theorem test_awake : after (exec .awake (running 0x41 []
      { State.reset with events :=
          { Events.reset with wakeEnable := 1, pending := 1, host := .asleep, wakeHigh := true } }))
    (fun s => (s.events.host, s.events.wakeHigh, s.events.pending)) = some (.awake, false, 1) := by decide

/-- R154: after REINIT COMMAND_DONE alone is pending, the pool is free and the generation stays. -/
theorem test_reinit : after (exec .reinit (running 0x50 [] (writing 21 (.bits 3) 0)))
    (fun s => (s.events.pending, s.pool.free, (s.entry 0).life, (s.entry 0).generation,
      s.segA.counters.abandoned)) = some (1, 32, .free, 1, 0) := by decide

/-- R143: code `$00` names no command. -/
theorem test_unknown : after (exec .unknown (running 0x00 [] State.reset))
    (fun s => (s.engine.result, s.events.pending)) = some (.unknown, 1) := by decide

/-- R17, R147: the entry returns to ACTIVE. -/
theorem test_abort : after (exec (.abort 9) (waiting (.disable 0)
      ((writing 21 (.bits 3) 0).setEntry 0 { target with life := .closing })))
    (fun s => ((s.entry 0).life, s.engine.result, s.segA.bound)) = some (.active, .aborted, true) := by
  decide

/-- R138, 10.7: COLLISION stands at bit 2. -/
theorem test_clear_collision : after (exec (.clearCollision 0b100)
      { State.reset with engine := { Engine.reset with collision := true } })
    (fun s => s.engine.collision) = some false := by decide

/-! ## The window -/

/-- R176: with PAGE at 1 a write meant for the parameter area does not reach it. -/
theorem test_parameter_write_page : after (exec (.parameterWrite 3 9) (showing 1 State.reset))
    (fun s => (s.engine.params[3], s.window.dataIndex)) = some (0, 0) := by decide

/-- R177. -/
theorem test_parameter_write : after (exec (.parameterWrite 3 9) State.reset)
    (fun s => s.engine.params[3]) = some 9 := by decide

/-- R175: a value of 4 is disregarded. -/
theorem test_page_write : after (exec (.pageWrite 4) (showing 3 State.reset)) (fun s => s.window.page)
    = some 3 := by decide

/-- R158: the second PENDING location reaches kinds 8 and 9 only. -/
theorem test_pending_clear : after (exec (.pendingClear .second 0xFF)
      { State.reset with events := { Events.reset with pending := 0b1111111111 } })
    (fun s => s.events.pending) = some 0b0011111111 := by decide

/-- R160, R161: enabling a pending kind asserts INT. -/
theorem test_int_enable : after (exec (.intEnableWrite .first 0x02)
      { State.reset with events := { Events.reset with pending := 0b10, intEnable := 0b1100000001 } })
    (fun s => (s.events.intEnable, s.events.intLow)) = some (0b1100000010, true) := by decide

/-- R160, R162: WAKE stays low while the host is AWAKE. -/
theorem test_wake_enable : after (exec (.wakeEnableWrite .second 0x03)
      { State.reset with events := { Events.reset with pending := 0b1100000000 } })
    (fun s => (s.events.wakeEnable, s.events.wakeHigh)) = some (0b1100000000, false) := by decide

/-- R103. -/
theorem test_empty_pop_clear : after (exec (.emptyPopClear 0x80)
      { State.reset with queue := { InboundQueue.reset with emptyPop := true } })
    (fun s => s.queue.emptyPop) = some false := by decide

/-- R102: the head leaves, and its cell is free. -/
theorem test_pop : after (exec (.pop 0) (holding [queued .A 6, queued .B 7]))
    (fun s => (s.queue.numbers, s.pool.free)) = some ([7], 31) := by decide

/-- R103: a POP on an empty queue. -/
theorem test_pop_empty : after (exec (.pop 0) State.reset) (fun s => s.queue.emptyPop) = some true := by
  decide

/-- R100: the port returns byte 0 and raises the index. -/
theorem test_data_port : after (exec .dataPortRead (showing 1 (holding [queued .A 6])))
    (fun s => (s.window.dataOut, s.window.dataIndex)) = some (some 1, 1) := by decide

/-- R169, R170: at the end of the read D7 to D0 are undriven, and its side effect stands. -/
theorem test_data_port_ends : after (step
      { State.reset with window := { page := 1, dataIndex := 1, dataOut := some 1 } })
    (fun s => (s.window.dataOut, s.window.dataIndex)) = some (none, 1) := by decide

/-- R100: a value above 16 sets the index to 16. -/
theorem test_data_index : after (exec (.dataIndexWrite 17) (showing 1 State.reset))
    (fun s => s.window.dataIndex) = some 16 := by decide

/-- R115. -/
theorem test_answer_seq : after (exec (.answerSeqWrite 7) State.reset) (fun s => s.dru.answerSeq)
    = some 7 := by decide

/-- R116: the ninth byte marks the staging OVERLONG. -/
theorem test_answer_data : after (exec (.answerDataWrite 9) (staged [1, 2, 3, 4, 5, 6, 7, 8] State.reset))
    (fun s => (s.dru.staging.length, s.dru.overlong)) = some (8, true) := by decide

/-- R119, R120: the first byte is sent and the rest is read ahead from sub-address 37. -/
theorem test_commit_accepted : after (exec .commit (staged [0x12, 0x34] (bench 36 (stretched 20) false true)))
    (fun s => (s.dru.lastOutcome, s.segA.sending, s.segA.state.txn.map (·.ahead)))
    = some (.accepted, 0x12, some { next := 37, bytes := [0x34] }) := by decide

/-- R118: an EMPTY commit leaves the request waiting. -/
theorem test_commit_empty : after (exec .commit (bench 36 (stretched 20) false true))
    (fun s => (s.dru.lastOutcome, s.segA.state.request)) = some (.empty, some (request 20)) := by decide

/-- R117. -/
theorem test_clear : after (exec .clear (staged [1] State.reset)) (fun s => s.dru.staging) = some [] := by
  decide

/-- R180: page 3 takes no write. -/
theorem test_disregarded : after (exec (.disregardedWrite 0x10 9) (showing 3 State.reset))
    (fun s => s == showing 3 State.reset) = some true := by decide

/-- R172: a POP with RD asserted removes nothing, and the read beside it drives D7 to D0 no longer. -/
theorem test_disregarded_strobes : after (exec (.disregardedWrite 0x0F 0)
      { holding [queued .A 6] with window := { page := 1, dataIndex := 1, dataOut := some 1 } })
    (fun s => (s.queue.records.length, s.window.dataOut)) = some (1, none) := by decide

/-- R71, R183: an open transaction leaves no trace. -/
theorem test_reset_assert : after (exec .resetAssert (writing 21 (.bits 3) 0))
    (fun s => (s.segA.state, s.pool.free, s.events.pending, s.inReset)) = some (.off, 32, 0, true) := by
  decide

/-- R184. -/
theorem test_reset_release : after (exec .resetRelease { State.reset with inReset := true })
    (fun s => s == State.reset) = some true := by decide

/-! ## Witnesses for what every step keeps -/

/-- Entry 1, ACTIVE on segment B, wholly DEFERRED. -/
def deferredTarget : Entry :=
  { target with segment := .B, address := 0x21, base := 40, length := 4, regions := [⟨0, 4, .deferred⟩] }

/-- Segment B stretched on a request of entry 1. -/
def stretchedB : Segment :=
  { Segment.reset with
      state := .rStretch { txn .read [] with target := 1, address := 0x21 }
        { sequence := 0, target := 1, sub := 0, position := 0, remaining := 50 }
      sclLow := true }

/-- The part at work: a write with an open record on segment A, a stretched read on segment B, a record in
the queue, a REGIONS that waits for segment A, INT asserted, and a tick to come. -/
def atWork : State :=
  { (((State.reset.setEntry 0 { target with pointer := 21 }).setEntry 1 deferredTarget).setSeg .A
      (bound (.wData (txn .write [record 20 [7]])) (.bits 3) 5)).setSeg .B stretchedB with
    linesB := { scl := false, sda := true }
    image := [(3, 9)]
    pool := { free := 30, reservedA := 1, reservedB := 0 }
    queue := { InboundQueue.reset with records := [queued .B 6], counter := 9 }
    engine := { Engine.reset with state := .waiting .A (.regions 0 []) }
    events := { Events.reset with pending := 2, intEnable := 2, intLow := true }
    pending := [.tick] }

theorem atWork_steps : ∃ t, step atWork = .next t := ⟨_, rfl⟩

/-- For the statements whose only hypothesis is the front of the queue. -/
theorem witness_StepTakesTheFrontCommand :
    atWork.pending = [.tick] ∧ State.reset.pending = [] := ⟨rfl, rfl⟩

theorem witness_OutputsFollowTheirConditions : OutputsJudged atWork ∧ ∃ t, step atWork = .next t :=
  ⟨⟨⟨fun _ => ⟨1, rfl, rfl⟩, fun _ => rfl⟩, ⟨fun h => (by cases h), fun h => (by cases h.1)⟩⟩,
    atWork_steps⟩

theorem atWork_recordsLawful : RecordsLawful atWork := by
  unfold RecordsLawful RecordLaw
  refine ⟨by decide, fun g t h r hr => ?_⟩
  cases g <;> cases h <;> revert r hr <;> decide

theorem witness_CellsStayAccountedFor :
    CellsAccounted atWork ∧ CountsInRange atWork ∧ RecordsLawful atWork ∧ ∃ t, step atWork = .next t :=
  ⟨⟨by decide, by decide, by decide⟩, by unfold CountsInRange; decide, atWork_recordsLawful,
    atWork_steps⟩

theorem witness_RecordNumbersStayDistinct :
    CellsAccounted atWork ∧ NumbersDistinct atWork ∧ ∃ t, step atWork = .next t :=
  ⟨witness_CellsStayAccountedFor.1, ⟨by decide, by decide⟩, atWork_steps⟩

theorem witness_ImageStaysCanonical : ImageCanonical atWork ∧ ∃ t, step atWork = .next t :=
  ⟨by unfold ImageCanonical; decide, atWork_steps⟩

theorem atWork_entry (k : Fin 16) : atWork.entry k =
    if k = 1 then deferredTarget
    else if k = 0 then { target with pointer := 21 } else Entry.freeWith 0 := by
  revert k
  decide

/-- The bench's target keeps the law of an entry, whatever its pointer. -/
theorem target_law : 1 ≤ target.length ∧ target.length ≤ 256
    ∧ target.base + target.length ≤ Config.imageBytes
    ∧ hasReserved target.address target.mask = false ∧ RegionsInOrder target.length target.regions := by
  unfold RegionsInOrder
  decide

theorem target_entryLaw (pointer : Byte) : EntryLaw { target with pointer := pointer } :=
  ⟨fun h => (by cases h), fun _ => target_law⟩

theorem atWork_tableLawful : TableLawful atWork := by
  constructor
  · intro k
    rw [atWork_entry]
    split
    · exact ⟨by decide, fun _ => ⟨by decide, by decide, by decide, by decide, by decide, by decide,
        by decide⟩⟩
    · split
      · exact target_entryLaw 21
      · exact ⟨fun _ => rfl, fun h => absurd rfl h⟩
  · intro j k ne
    rw [atWork_entry, atWork_entry]
    unfold EntriesApart
    by_cases j1 : j = 1
    · by_cases k0 : k = 0
      · subst j1 k0; decide
      · have k1 : k ≠ 1 := fun e => ne (j1.trans e.symm)
        rw [if_pos j1, if_neg k1, if_neg k0]; decide
    · by_cases j0 : j = 0
      · by_cases k1 : k = 1
        · subst j0 k1; decide
        · have k0 : k ≠ 0 := fun e => ne (j0.trans e.symm)
          rw [if_neg j1, if_pos j0, if_neg k1, if_neg k0]; decide
      · rw [if_neg j1, if_neg j0]
        split
        · decide
        · split <;> decide

theorem atWork_bindingsLawful : BindingsLawful atWork := by
  intro g t h
  cases g <;> (cases h; decide)

theorem atWork_waitingLawful : WaitingLawful atWork := by
  constructor
  · intro g h w
    cases w
    exact ⟨_, rfl, rfl, by decide, by decide, by decide⟩
  · intro k closing
    rw [atWork_entry] at closing
    split at closing
    · cases closing
    · split at closing <;> cases closing

theorem witness_TableStaysLawful : TableLawful atWork ∧ BindingsLawful atWork ∧ WaitingLawful atWork
    ∧ ∃ t, step atWork = .next t :=
  ⟨atWork_tableLawful, atWork_bindingsLawful, atWork_waitingLawful, atWork_steps⟩

theorem atWork_segmentLaw (g : Seg) : SegmentLaw (atWork.seg g) := by
  cases g
  · exact ⟨by decide, by decide, fun n h => (by cases h; decide), fun t r h => (by cases h)⟩
  · exact ⟨by decide, by decide, fun n h => (by cases h), fun t r h => (by cases h; decide)⟩

theorem atWork_segmentsLawful : SegmentsLawful atWork :=
  ⟨atWork_segmentLaw .A, atWork_segmentLaw .B, fun r q h => (by cases h)⟩

theorem atWork_quotasKept : QuotasKept atWork := by
  intro g
  unfold ConfigInRange
  cases g <;> decide

theorem witness_SegmentsStayLawful : SegmentsLawful atWork ∧ QuotasKept atWork ∧ CellsAccounted atWork
    ∧ WaitingLawful atWork ∧ ∃ t, step atWork = .next t :=
  ⟨atWork_segmentsLawful, atWork_quotasKept, witness_CellsStayAccountedFor.1, atWork_waitingLawful,
    atWork_steps⟩

theorem atWork_clocksInStep : ClocksInStep atWork := by
  intro g
  cases g
  · exact ⟨by decide, fun h => (by cases h)⟩
  · rfl

theorem witness_ClocksStayInStep : ClocksInStep atWork ∧ (∀ g, SegmentLaw (atWork.seg g))
    ∧ (atWork.inReset = true → HeldInReset atWork) ∧ ∃ t, step atWork = .next t :=
  ⟨atWork_clocksInStep, atWork_segmentLaw, fun h => (by cases h), atWork_steps⟩

theorem resetSegment_law : SegmentLaw Segment.reset :=
  ⟨by decide, by decide, fun n h => (by cases h), fun t r h => (by cases h)⟩

/-- Both clauses: segment A's clock can fall; with it low it can rise. -/
theorem witness_NoEdgeIsLost :
    (atWork.inReset = false ∧ ClocksInStep atWork ∧ (∀ g, SegmentLaw (atWork.seg g))
      ∧ atWork.canFall .A = true)
    ∧ (let s := State.reset.setLines .A { scl := false, sda := true }
      s.inReset = false ∧ ClocksInStep s ∧ (∀ g, SegmentLaw (s.seg g)) ∧ s.canRise .A = true) :=
  ⟨⟨rfl, atWork_clocksInStep, atWork_segmentLaw, by decide⟩,
    ⟨rfl, fun g => by cases g <;> trivial, fun g => by cases g <;> exact resetSegment_law, by decide⟩⟩

theorem witness_AssertedResetTakesNoEvent :
    let s := { State.reset with inReset := true, pending := [.tick] }
    s.inReset = true ∧ HeldInReset s ∧ Instr.tick ≠ .resetRelease := ⟨rfl, rfl, by decide⟩

/-! ## Witnesses for the table and image memory -/

theorem witness_ClassificationFollowsTheRegionList :
    target.regions.Pairwise (fun r q => r.meets q = false) := by decide

/-- Lengths 1 and 256 are the ends of the range; each clause at its edge. -/
theorem witness_PointerStepFollowsTheWrapMode :
    (1 ≤ target.length ∧ target.length ≤ 256)
    ∧ ({ target with pointer := 39 }.wrap = .wrap ∧ (39 : Byte).toNat = target.length - 1)
    ∧ ({ target with pointer := 255 }.wrap = .wrap ∧ (255 : Byte).toNat ≠ target.length - 1)
    ∧ { target with wrap := .run, pointer := 255 }.wrap = .run
    ∧ { target with length := 256 }.length = 256 := by decide

theorem witness_WrittenBytesAreReadBack :
    Memory.wf [(3, 9)] = true ∧ 2046 + ([1, 2] : List Byte).length ≤ 2048 := by decide

/-! ## Witnesses for conditions and the end of a transaction -/

theorem witness_UnboundSegmentTakesStartAndStop :
    (∀ state ∈ [SegState.off, .idle, .address, .ignore], ∀ sda,
      let s := bench 0 (free state (.bits 0) 0) true sda
      s.inReset = false ∧ (s.lines .A).scl = true ∧ (s.seg .A).sdaLow = false
      ∧ (s.seg .A).sclLow = false ∧ (s.seg .A).abandonTimer = none ∧ (s.seg .A).state = state
      ∧ (s.lines .A).sda = sda) := by decide

/-- The boundary clauses at their last unsettled bit and in R_DONE, the mid-byte one at its first settled
bit, under a START and under a STOP. -/
theorem witness_ConditionEndsTheTransaction :
    (∀ clock ∈ [ByteClock.bits 1, .bits 2, .ack .dataAcked true], ∀ sda,
      let s := { writing 21 clock 0 with linesA := { scl := true, sda := sda } }
      s.inReset = false ∧ (s.lines .A).scl = true ∧ (s.seg .A).sdaLow = false
      ∧ (s.seg .A).sclLow = false ∧ (s.seg .A).txn = some (txn .write [record 20 [7]])
      ∧ (s.seg .A).state.request = none ∧ (s.seg .A).clock = clock ∧ (s.lines .A).sda = sda)
    ∧ (bench 0 (bound (.rDone (txn .read [])) (.bits 2) 0) true true).segA.state = .rDone (txn .read []) := by
  decide

theorem witness_EndUnbindsAndSettlesTheRecords : ∀ h, State.reset.engine.state ≠ .waiting .A h := by
  intro h e
  cases e

theorem witness_WaitingCommandTakesEffectAtTheEnd :
    atWork.engine.state = .waiting .A (.regions 0 []) := rfl

/-- As many records as the pool has cells. -/
theorem witness_CommittedRecordsAreNumberedInTurn :
    [record 20 [7]] ≠ []
    ∧ (List.replicate 31 (queued .B 6)).length + [record 20 [7]].length ≤ 32 := by decide

theorem witness_CommitPostsArrivalAndLevel : ([] : List OpenRecord) = [] ∧ [record 20 [7]] ≠ [] := by
  decide

/-! ## Witnesses for received bytes -/

/-- The bench's table is lawful whatever its pointer, segment and lines. -/
theorem bench_tableLawful (pointer : Byte) (x : Segment) (scl sda : Bool) :
    TableLawful (bench pointer x scl sda) := by
  have entry : ∀ k, (bench pointer x scl sda).entry k =
      if k = 0 then { target with pointer := pointer } else Entry.freeWith 0 := by
    intro k
    simp only [bench, State.setLines_entry, State.setSeg_entry, State.setEntry_entry]
    split
    · rfl
    · revert k; decide
  constructor
  · intro k
    rw [entry]
    split
    · exact target_entryLaw pointer
    · exact ⟨fun _ => rfl, fun h => absurd rfl h⟩
  · intro j k ne
    rw [entry, entry]
    unfold EntriesApart
    by_cases j0 : j = 0
    · have k0 : k ≠ 0 := fun e => ne (j0.trans e.symm)
      rw [if_pos j0, if_neg k0]
      exact ⟨fun _ h => absurd rfl h, fun _ h => (by cases h)⟩
    · rw [if_neg j0]
      exact ⟨fun h => absurd rfl h, fun h => (by cases h)⟩

/-- A matching address, `$A0` and `$A1`; an address that no ACTIVE entry matches, `$A2`. -/
theorem witness_AddressByteBindsOrIsRefused :
    (∀ shift ∈ [(0xA0 : Byte), 0xA1, 0xA2],
      let s := bench 0 (free .address (.bits 8) shift) true true
      s.inReset = false ∧ (s.lines .A).scl = true ∧ (s.seg .A).clock = .bits 8
      ∧ (s.seg .A).state = .address ∧ (s.seg .A).sdaLow = false ∧ (s.seg .A).sclLow = false
      ∧ (s.seg .A).abandonTimer = none)
    ∧ TableLawful (bench 0 (free .address (.bits 8) 0xA0) true true)
    ∧ (target.life = .active ∧ target.segment = .A
      ∧ ((0xA0 : Byte) >>> 1).setWidth 7 &&& target.mask = target.address &&& target.mask)
    ∧ ((0xA2 : Byte) >>> 1).setWidth 7 &&& target.mask ≠ target.address &&& target.mask :=
  ⟨by decide, bench_tableLawful _ _ _ _, by decide, by decide⟩

/-- Bound states with a byte sampled: W_SUBADDR, W_DATA and W_REFUSING. -/
theorem witness_bytes_sampled :
    ∀ state ∈ [SegState.wSubaddr (txn .write []), .wData (txn .write []), .wRefusing (txn .write [])],
      let s := bench 10 (bound state (.bits 8) 5) true true
      s.inReset = false ∧ (s.lines .A).scl = true ∧ (s.seg .A).clock = .bits 8
      ∧ (s.seg .A).state = state ∧ (s.seg .A).abandonTimer.isSome = true := by decide

theorem witness_SubAddressByteSetsThePointer :
    let s := bench 10 (bound (.wSubaddr (txn .write [])) (.bits 8) 5) true true
    ByteSampled s .A ∧ (s.seg .A).state = .wSubaddr (txn .write [])
    ∧ (s.seg .A).abandonTimer.isSome = true := ⟨⟨rfl, rfl, rfl⟩, rfl, rfl⟩

/-- Each refused class, at the first sub-address of an unmapped run and of the out-of-image part. -/
theorem witness_RefusedByteChangesOnlyTheCounter :
    target.classify 30 = .unmapped ∧ target.classify 40 = .outOfImage
    ∧ { target with regions := [⟨0, 4, .fixed⟩] }.classify 3 = .inRegion .fixed
    ∧ (∀ pointer ∈ [(30 : Byte), 40], ByteSampled (writing pointer (.bits 8) 5) .A
      ∧ (writing pointer (.bits 8) 5).segA.abandonTimer.isSome = true
      ∧ (writing pointer (.bits 8) 5).segA.state = .wData (txn .write [record 20 [7]])) := by
  unfold ByteSampled
  decide

/-- OPEN begins at sub-address 10. -/
theorem witness_OpenByteIsAppliedAndAcknowledged :
    let s := writing 10 (.bits 8) 5
    ByteSampled s .A ∧ (s.seg .A).abandonTimer.isSome = true ∧ ImageCanonical s ∧ EntryLaw (s.entry 0)
    ∧ (s.entry 0).life ≠ .free ∧ (s.seg .A).state = .wData (txn .write [record 20 [7]])
    ∧ (s.entry 0).classify (s.entry 0).pointer = .inRegion .open_ :=
  ⟨⟨rfl, rfl, rfl⟩, rfl, rfl, target_entryLaw 10, by decide, rfl, by decide⟩

/-- The byte at 21 extends the record that ends at 20; the one at 22 does not, and is granted a cell with one
reserved of a quota of 16; with no free cell it is refused. The classes are QUEUED, POSTED and DEFERRED. -/
theorem witness_RecordedByteFindsItsPlace :
    (∀ pointer ∈ [(9 : Byte), 21, 22, 36],
      let s := writing pointer (.bits 8) 5
      ByteSampled s .A ∧ (s.seg .A).abandonTimer.isSome = true ∧ Memory.wf s.image = true
      ∧ (s.entry 0).life ≠ .free ∧ (s.seg .A).state = .wData (txn .write [record 20 [7]]))
    ∧ (target.classify 9 = .inRegion .posted ∧ target.classify 21 = .inRegion .queued
      ∧ target.classify 36 = .inRegion .deferred)
    ∧ ((record 20 [7]).start.toNat + (record 20 [7]).data.length = (21 : Byte).toNat
      ∧ (record 20 [7]).start.toNat + (record 20 [7]).data.length ≠ (22 : Byte).toNat)
    ∧ (1 ≤ (writing 22 (.bits 8) 5).pool.free ∧ (writing 22 (.bits 8) 5).pool.reserved .A < 16)
    ∧ ¬ 1 ≤ ({ free := 0, reservedA := 1, reservedB := 0 } : Pool).free := by
  unfold ByteSampled
  decide

theorem witness_AcknowledgeBitStepsThePointer :
    (∀ x ∈ [bound (.wData (txn .write [])) (.ack .dataAcked false) 0,
        bound (.rData (txn .read [])) (.ack .transmitted false) 0],
      let s := bench 39 x false true
      ClockLow s .A ∧ (s.seg .A).abandonTimer.isSome = true ∧ (s.seg .A) = x ∧ x.sdaLow = false) := by
  unfold ClockLow
  decide

/-- The first and the last bit of a byte received and of one sent, the acknowledge clock, and a segment that
takes no bits. -/
theorem witness_SclEdgeTakesOrPresentsABit :
    (∀ x ∈ [free .address (.bits 0) 0, free .address (.bits 7) 0,
        bound (.wData (txn .write [])) (.ack .subAddress false) 0,
        bound (.rData (txn .read [])) (.bits 7) 0, bound (.rData (txn .read [])) (.bits 8) 0,
        bound (.wData (txn .write [])) (.ack .subAddress true) 0, free .idle (.bits 0) 0],
      ∀ scl, let s := bench 0 x scl true
        s.inReset = false ∧ (s.lines .A).scl = scl ∧ s.seg .A = x ∧ x.sclLow = false) := by decide

theorem witness_EightClocksDeliverAByte :
    let s := { bench 0 (free .address (.bits 0) 0xFF) false true with pending :=
      [.sclEdge .A (.rise true), .sclEdge .A .fall, .sclEdge .A (.rise false), .sclEdge .A .fall,
       .sclEdge .A (.rise true), .sclEdge .A .fall, .sclEdge .A (.rise false), .sclEdge .A .fall,
       .sclEdge .A (.rise false), .sclEdge .A .fall, .sclEdge .A (.rise false), .sclEdge .A .fall,
       .sclEdge .A (.rise false), .sclEdge .A .fall, .sclEdge .A (.rise true)] }
    let bit (n : Nat) : List Instr :=
      [.sclEdge .A (.rise ((0xA1 : Byte).getLsbD (7 - n))), .sclEdge .A .fall]
    ClockLow s .A ∧ (s.seg .A).state = .address ∧ (s.seg .A).clock = .bits 0
    ∧ (s.seg .A).sdaLow = false
    ∧ s.pending = bit 0 ++ bit 1 ++ bit 2 ++ bit 3 ++ bit 4 ++ bit 5 ++ bit 6
      ++ .sclEdge .A (.rise ((0xA1 : Byte).getLsbD 0)) :: [] := by
  unfold ClockLow
  decide

/-! ## Witnesses for reads and timers -/

/-- A read transaction that has read ahead a byte for sub-address 36. -/
def readingAhead : Txn := { txn .read [] with ahead := { next := 36, bytes := [5] } }

/-- One pointer of each class, at the edges of the regions; expired mode, the read-ahead and an ASLEEP
host. -/
theorem witness_NeededByteIsSentAtOnce :
    (∀ pointer ∈ [(0 : Byte), 10, 29, 30, 40, 36], ∀ t ∈ [txn .read [], readingAhead,
        { txn .read [] with expired := true }],
      let s := bench pointer (bound (.rData t) (.ack .address true) 0) true true
      s.inReset = false ∧ (s.lines .A).scl = true ∧ (s.seg .A).state = .rData t
      ∧ (s.seg .A).clock = .ack .address true ∧ (s.seg .A).abandonTimer.isSome = true)
    ∧ target.classify 0 = .inRegion .posted ∧ target.classify 10 = .inRegion .open_
    ∧ target.classify 29 = .inRegion .queued ∧ target.classify 30 = .unmapped
    ∧ target.classify 40 = .outOfImage ∧ target.classify 36 = .inRegion .deferred
    ∧ readingAhead.ahead.next = (36 : Byte).toNat ∧ target.sleep = .fill
    ∧ Events.host { Events.reset with host := .asleep } = .asleep := by decide

/-- A request numbered by the counter, and one that passes over the other segment's number. -/
theorem witness_NeededByteIsRequested :
    let s := bench 36 (bound (.rData (txn .read [])) (.ack .transmitted true) 0) true true
    let u := { s with segB := stretchedB }
    (∀ v ∈ [s, u], v.inReset = false ∧ (v.lines .A).scl = true
      ∧ (v.seg .A).state = .rData (txn .read []) ∧ (v.seg .A).clock = .ack .transmitted true
      ∧ (v.entry 0).classify (v.entry 0).pointer = .inRegion .deferred ∧ v.events.host = .awake)
    ∧ (s.seg .B).state.request = none
    ∧ (u.seg .B).state.request.map (·.sequence) = some u.dru.sequenceCounter := by decide

/-- Each outcome of a commit that delivers nothing: seven and eight staged bytes are the ends of the
ANSWER_DATA clauses. -/
theorem witness_AnswerPortStagesAndJudges :
    State.reset.inReset = false ∧ ([1, 2, 3, 4, 5, 6, 7] : List Byte).length < 8
    ∧ 8 ≤ ([1, 2, 3, 4, 5, 6, 7, 8] : List Byte).length
    ∧ (State.reset.seg .A).state.request = none ∧ (State.reset.seg .B).state.request = none
    ∧ State.reset.dru.staging = [] := by decide

theorem witness_AcceptedAnswerIsDelivered :
    let s := staged [0x12] atWork
    s.inReset = false ∧ (∃ t r, (s.seg .B).state = .rStretch t r ∧ r.sequence = s.dru.answerSeq)
    ∧ s.dru.overlong = false ∧ s.dru.staging = 0x12 :: [] ∧ SegmentsLawful s :=
  ⟨rfl, ⟨_, _, rfl, rfl⟩, rfl, rfl, atWork_segmentsLawful⟩

/-- The abandon timer of segment A and the stretch timer of segment B with some ticks left. -/
def ticking (abandon stretch : Nat) : State :=
  { atWork with
    segA := { atWork.segA with abandonTimer := some abandon }
    segB := { stretchedB with
      state := .rStretch { txn .read [] with target := 1, address := 0x21 }
        { sequence := 0, target := 1, sub := 0, position := 0, remaining := stretch } } }

theorem ticking_segmentsLawful {abandon stretch : Nat} (h : 1 ≤ abandon) (low : 1 ≤ stretch)
    (high : stretch ≤ 255) : SegmentsLawful (ticking abandon stretch) :=
  ⟨⟨by simp [ticking, atWork, bound, SegState.request, State.setSeg, Segment.reset],
      by simp [ticking, atWork, bound, SegState.request, Segment.bound, Segment.txn, SegState.txn,
        State.setSeg],
      fun n e => (by cases e; exact h), fun t r e => (by cases e)⟩,
    ⟨by simp [ticking, stretchedB, SegState.request],
      by simp [ticking, stretchedB, SegState.request, Segment.reset], fun n e => (by cases e),
      fun t r e => (by cases e; exact ⟨low, high, rfl, rfl⟩)⟩,
    fun r q e => (by cases e)⟩

/-- No timer at its last tick; segment A's timer at its last; segment B's; both. -/
theorem witness_TickReachesEveryRunningTimer :
    (∀ a ∈ [1, 2], ∀ b ∈ [1, 2], (ticking a b).inReset = false ∧ SegmentsLawful (ticking a b))
    ∧ (dueExpiry .A (ticking 2 2).segA = none ∧ dueExpiry .B (ticking 2 2).segB = none)
    ∧ (dueExpiry .A (ticking 1 2).segA = some (.abandonTimerExpiry .A)
      ∧ dueExpiry .B (ticking 1 2).segB = none)
    ∧ (dueExpiry .A (ticking 2 1).segA = none
      ∧ dueExpiry .B (ticking 2 1).segB = some (.stretchExpiry .B))
    ∧ (dueExpiry .A (ticking 1 1).segA = some (.abandonTimerExpiry .A)
      ∧ dueExpiry .B (ticking 1 1).segB = some (.stretchExpiry .B))
    ∧ ∃ u v, exec (.abandonTimerExpiry .A) (ticking 1 1) = .next u
      ∧ exec (.stretchExpiry .B) (ticking 2 1) = .next v := by
  refine ⟨fun a ha b hb => ⟨rfl, ?_⟩, ⟨rfl, rfl⟩, ⟨rfl, rfl⟩, ⟨rfl, rfl⟩, ⟨rfl, rfl⟩, ⟨_, _, rfl, rfl⟩⟩
  simp only [List.mem_cons, List.not_mem_nil, or_false] at ha hb
  exact ticking_segmentsLawful (by omega) (by omega) (by omega)

theorem witness_ExpiriesAbandonOrFill :
    let s := bench 36 (stretched 1) false true
    let u := bench 36 { bound (.wData (txn .write [])) (.bits 3) 0 with abandonTimer := some 1 } true true
    (s.inReset = false ∧ (s.seg .A).state = .rStretch (txn .read []) (request 1)
      ∧ (request 1).remaining = 1)
    ∧ u.inReset = false ∧ (u.seg .A).txn = some (txn .write []) ∧ (u.seg .A).abandonTimer = some 1 := by
  decide

/-! ## Witnesses for the Command Engine -/

theorem witness_CommandIssueLatchesOrCollides :
    State.reset.inReset = false ∧ State.reset.engine.state = .idle
    ∧ (running 0x40 [] State.reset).engine.state ≠ .idle := by decide

theorem witness_CompletionAndResultPositions : 11 + ([9, 9, 9, 9, 9] : List Byte).length ≤ 16 := by decide

theorem witness_RefusedCommandTakesNoEffect :
    let s := running 0x01 [16] State.reset
    Instr.define ∈ [Instr.define, .enable] ∧ s.engine.state = .running
    ∧ ∃ t, exec .define s = .next t ∧ t.engine.state = .idle ∧ t.engine.result ≠ .ok :=
  ⟨by decide, rfl, _, rfl, by decide, by decide⟩

/-- BAD_INDEX at 16; BAD_STATE; BAD_PARAM by a base one too high, and by a reserved address; OVERLAP; OK at the
top of image memory. -/
theorem witness_DefineChecksThenAllocates :
    (∀ p ∈ [[(16 : Byte)], [0], [1, 0, 0x50, 0x7F, 0x07, 0x01, 1, 0, 0, 0, 0]],
      Running (running 0x01 p (alone .active)) 0x01)
    ∧ ((alone .active).entry 0).life ≠ .free ∧ ((alone .active).entry 1).life = .free
    ∧ 2048 < 256 * (0x07 : Byte).toNat + (0x01 : Byte).toNat + 256
    ∧ (InMatchSet 0x40 0x40 0x78 ∧ Reserved 0x78)
    ∧ (InRange 39 8 39 ∧ InRange target.base target.length 39)
    ∧ (256 * (0x07 : Byte).toNat + (0x00 : Byte).toNat + 256 ≤ 2048
      ∧ ∀ x : BusAddress, InMatchSet 0x50 0x7F x → ¬ Reserved x) := by
  unfold Running InMatchSet Reserved InRange
  decide

/-- A conflict at `$52`, and none at `$54`; an entry not DEFINED; indices 15 and 16. -/
theorem witness_EnableActivatesAndReleaseFrees :
    (∀ p ∈ [[(0 : Byte)], [15], [16]], Running (running 0x02 p (alone .defined)) 0x02
      ∧ Running (running 0x04 p (alone .defined)) 0x04)
    ∧ ((alone .defined).entry 0).life = .defined ∧ ((alone .defined).entry 15).life ≠ .defined
    ∧ (InMatchSet 0x50 0x7C 0x52 ∧ InMatchSet 0x52 0x7F 0x52)
    ∧ (∀ j, ¬ (((alone .defined).entry j).life = .active ∨ ((alone .defined).entry j).life = .closing)) := by
  unfold Running InMatchSet
  decide

/-- GRACEFUL and FORCED on a bound entry and on an unbound one; mode 2 names neither. -/
theorem witness_DisableIsGracefulOrForced :
    (∀ p ∈ [[(0 : Byte), 0], [0, 1], [0, 2], [16, 0], [15, 0]],
      Running (running 0x03 p (writing 21 (.bits 3) 0)) 0x03)
    ∧ ((writing 21 (.bits 3) 0).entry 0).life = .active
    ∧ ((writing 21 (.bits 3) 0).entry 15).life ≠ .active
    ∧ ((writing 21 (.bits 3) 0).seg .A).txn.map (·.target) = some 0
    ∧ ((alone .active).seg .A).txn = none := by
  unfold Running
  decide

/-- Both parts, of a FREE entry, of a bound one and of an unbound one. -/
theorem witness_QueryReturnsASnapshot :
    (∀ p ∈ [[(0 : Byte), 0], [0, 1], [0, 2], [1, 0], [16, 0]],
      Running (running 0x05 p (writing 21 (.bits 3) 0)) 0x05)
    ∧ ((writing 21 (.bits 3) 0).entry 0).life ≠ .free ∧ ((writing 21 (.bits 3) 0).entry 1).life = .free
    ∧ ((writing 21 (.bits 3) 0).seg .A).txn.map (·.target) = some 0
    ∧ ((writing 21 (.bits 3) 0).entry 0).regions.length ≤ 4 := by
  unfold Running
  decide

/-- A list of two regions that meet nowhere; a count of 5; a bound entry and an unbound one; an entry that is
FREE. -/
theorem witness_RegionsStoresOrWaits :
    (∀ p ∈ [[(0 : Byte), 2, 8, 4, 0, 0, 8, 1], [0, 5], [1, 0], [16, 0]],
      Running (running 0x10 p (writing 21 (.bits 3) 0)) 0x10)
    ∧ ((writing 21 (.bits 3) 0).entry 0).life = .active ∧ ((writing 21 (.bits 3) 0).entry 1).life = .free
    ∧ ((alone .defined).entry 0).life = .defined
    ∧ ((writing 21 (.bits 3) 0).seg .A).txn.map (·.target) = some 0
    ∧ (([⟨8, 4, .fixed⟩, ⟨0, 8, .open_⟩] : List Region).length = (2 : Byte).toNat
      ∧ ∀ r ∈ ([⟨8, 4, .fixed⟩, ⟨0, 8, .open_⟩] : List Region), r.start.toNat + r.length ≤ target.length)
    ∧ ¬ (5 : Byte).toNat ≤ 4 := by
  unfold Running
  decide

/-- A put up to the last byte of the image, a count of 13, and ATOMIC on a bound entry. -/
theorem witness_ImagePutWritesOrWaits :
    (∀ p ∈ [[(0 : Byte), 38, 2, 0, 1, 2], [0, 0, 13, 0], [0, 38, 2, 1, 1, 2], [1, 0, 1, 0], [16, 0]],
      Running (running 0x11 p (writing 21 (.bits 3) 0)) 0x11)
    ∧ ImageCanonical (writing 21 (.bits 3) 0) ∧ EntryLaw ((writing 21 (.bits 3) 0).entry 0)
    ∧ ((writing 21 (.bits 3) 0).entry 0).life ≠ .free ∧ ((writing 21 (.bits 3) 0).entry 1).life = .free
    ∧ (38 : Byte).toNat + 2 ≤ ((writing 21 (.bits 3) 0).entry 0).length
    ∧ ((writing 21 (.bits 3) 0).seg .A).txn.map (·.target) = some 0 :=
  ⟨by unfold Running; decide, rfl, target_entryLaw 21, by decide, by decide, by decide, by decide⟩

/-- A get of the last 16 bytes of the image, and counts of 0 and 17. -/
theorem witness_ImageGetCopiesTheBytes :
    (∀ p ∈ [[(0 : Byte), 24, 16], [0, 0, 0], [0, 0, 17], [1, 0, 1], [16, 0, 1]],
      Running (running 0x12 p (alone .active)) 0x12)
    ∧ ((alone .active).entry 0).life ≠ .free ∧ ((alone .active).entry 1).life = .free
    ∧ (24 : Byte).toNat + 16 ≤ ((alone .active).entry 0).length := by
  unfold Running
  decide

/-- Scopes 2 and 3, and thresholds 0, 1, 32 and 33. -/
theorem witness_QueueCommandsFlushAndConfigure :
    (∀ v ∈ [(2 : Byte), 3], Running (running 0x20 [v] (holding [queued .A 6])) 0x20)
    ∧ ∀ v ∈ [(0 : Byte), 1, 32, 33], Running (running 0x21 [v] (holding [queued .A 6])) 0x21 := by
  unfold Running
  decide

/-- A quota of 33 and one of 32; power OFF and ON on a bound segment, on one that is OFF and on one in
IGNORE. -/
theorem witness_SegmentConfiguresOrWaits :
    (∀ p ∈ [[(0 : Byte), 1, 50, 35, 33], [0, 0, 50, 35, 32], [0, 1, 50, 35, 32], [1, 1, 1, 1, 1]],
      Running (running 0x30 p (writing 21 (.bits 3) 0)) 0x30)
    ∧ ((writing 21 (.bits 3) 0).seg .A).txn = some (txn .write [record 20 [7]])
    ∧ ((writing 21 (.bits 3) 0).seg .B).state = .off
    ∧ ((writing 21 (.bits 3) 0).seg .B).txn = none
    ∧ (free .ignore (.bits 0) 0).state ∈ [SegState.idle, .address, .ignore] := by
  unfold Running
  decide

theorem witness_ClearCountersZeroesItsScope :
    ∀ v ∈ [(0 : Byte), 2, 3], Running (running 0x31 [v] State.reset) 0x31 := by
  unfold Running
  decide

/-- The held codes of SLEEP and AWAKE, and two codes that name no command. -/
theorem witness_HostStateAndUnknownCodes :
    ∀ code ∈ [(0x40 : Byte), 0x41, 0x00, 0xFF],
      (running code [] State.reset).inReset = false
      ∧ (running code [] State.reset).engine.state = .running
      ∧ (running code [] State.reset).engine.code = code := by decide

theorem witness_ReinitKeepsImagesAndGenerations :
    Running (running 0x50 [] (writing 21 (.bits 3) 0)) 0x50 := ⟨rfl, rfl, rfl⟩

/-- WAITING with a graceful DISABLE, WAITING with something else, and IDLE. -/
theorem witness_AbortWithdrawsTheWaitingCommand :
    atWork.inReset = false
    ∧ (waiting (.disable 0) State.reset).engine.state = .waiting .A (.disable 0)
    ∧ (atWork.engine.state = .waiting .A (.regions 0 []) ∧ ∀ k, Held.regions 0 [] ≠ .disable k)
    ∧ ∀ g h, State.reset.engine.state ≠ .waiting g h :=
  ⟨rfl, rfl, ⟨rfl, fun k e => (by cases e)⟩, fun g h e => (by cases e)⟩

/-! ## Witnesses for the window -/

theorem witness_FlagWritesReachTheirLocation : State.reset.inReset = false := rfl

/-- PAGE values 3 and 4, and each page shown, with and without a head record and a request. -/
theorem witness_UpperHalfFollowsThePage :
    State.reset.inReset = false ∧ (3 : Byte).toNat = (3 : Fin 4).val ∧ 4 ≤ (4 : Byte).toNat
    ∧ (∀ page, (showing page State.reset).window.page = page)
    ∧ (showing 1 (holding [queued .A 6])).queue.records = queued .A 6 :: []
    ∧ (showing 1 State.reset).queue.records = []
    ∧ (showing 2 atWork).segB.state.request.map (·.sub) = some 0
    ∧ (showing 2 State.reset).segB.state.request = none
    ∧ ({ Segment.reset with expiryMemory := some 7 } : Segment).expiryMemory = some 7
    ∧ ([1, 2, 3, 4, 5, 6, 7, 8] : List Byte).length ≤ 8 := by decide

theorem witness_PopAndEmptyPop :
    State.reset.inReset = false ∧ (holding [queued .A 6]).queue.records = queued .A 6 :: []
    ∧ State.reset.queue.records = [] ∧ (0x80 : Byte).getLsbD 7 = true
    ∧ (holding (List.replicate 32 (queued .A 6))).queue.records.length ≤ 32 := by decide

/-- Each page; the boundary locations of a disregarded write; no request and an empty expiry memory. -/
theorem witness_LocationsWithoutAnItem :
    State.reset.inReset = false ∧ (∀ page, (showing page State.reset).window.page = page)
    ∧ ((0x02 : Location).toNat = 0x02 ∧ 4 ≤ (4 : Byte).toNat) ∧ (0x03 : Location).toNat = 0x03
    ∧ ((0x0E : Location).toNat = 0x0E ∧ (0 : Byte) ≠ 1 ∧ (3 : Byte) ≠ 2)
    ∧ 0x10 ≤ (0x10 : Location).toNat ∧ (0x1A : Location).toNat ≠ 0x1B
    ∧ State.reset.queue.records = [] ∧ State.reset.segA.state.request = none
    ∧ State.reset.segB.state.request = none ∧ State.reset.segA.expiryMemory = none
    ∧ State.reset.segB.expiryMemory = none := by decide

/-- Each level of the lines and of the part's drives; each place at which an edge is a row of its own, and one
at which it is none; an engine that is IDLE, and one RUNNING with another code; timers that are stopped or
have two ticks left. -/
theorem witness_EventThatDoesNotAriseChangesNothing :
    (∀ scl sda, (bench 0 (bound (.wData (txn .write [])) (.bits 3) 0) scl sda).lines .A = ⟨scl, sda⟩)
    ∧ (stretched 2).sclLow = true
    ∧ (∀ x ∈ [free .address (.bits 8) 0, bound (.wSubaddr (txn .write [])) (.bits 8) 0,
        bound (.wRefusing (txn .write [])) (.bits 8) 0, bound (.rData (txn .read [])) (.ack .address true) 0,
        bound (.wData (txn .write [])) (.ack .dataAcked false) 0,
        bound (.rData (txn .read [])) (.ack .transmitted false) 0, free .idle (.bits 0) 0],
      (bench 0 x true true).inReset = false ∧ (bench 0 x true true).seg .A = x)
    ∧ ({ free .idle (.bits 0) 0 with sdaLow := true } : Segment).sdaLow = true
    ∧ ClocksInStep atWork
    ∧ State.reset.engine.state ≠ .running ∧ (running 0x44 [] State.reset).engine.code ≠ 0x40
    ∧ (running 0x40 [] State.reset).engine.code = 0x40
    ∧ (stretched 2).state.request.map (·.remaining) = some 2
    ∧ (bound (.wData (txn .write [])) (.bits 3) 0).abandonTimer = some 350
    ∧ State.reset.segA.abandonTimer = none :=
  ⟨by decide, rfl, by decide, rfl, atWork_clocksInStep, by decide, by decide, rfl, rfl, rfl, rfl⟩

end Sys2Proof.Tests
end

section
/-! PROOFS. Match sets (2.1): two overlap exactly when they share an address (R3), and the test of R2
finds a reserved address exactly when there is one. -/

namespace Sys2Proof.Machine

open Sys2Proof.Safety

/-! ## Overlap (R3) -/

theorem matchSetsOverlap_iff_eq (a m a' m' : BusAddress) :
    matchSetsOverlap a m a' m' = true ↔ a &&& m &&& m' = a' &&& m &&& m' := by
  simp [matchSetsOverlap]

theorem matchSetsOverlap_comm (a m a' m' : BusAddress) :
    matchSetsOverlap a m a' m' = matchSetsOverlap a' m' a m := by
  rw [Bool.eq_iff_iff, matchSetsOverlap_iff_eq, matchSetsOverlap_iff_eq, BitVec.and_assoc,
    BitVec.and_assoc, BitVec.and_comm m m', ← BitVec.and_assoc, ← BitVec.and_assoc]
  exact eq_comm

/-- Overlap bit by bit: the addresses agree wherever both masks compare. -/
theorem matchSetsOverlap_iff_bits (a m a' m' : BusAddress) :
    matchSetsOverlap a m a' m' = true ↔
      ∀ n : Nat, m.getLsbD n = true → m'.getLsbD n = true → a.getLsbD n = a'.getLsbD n := by
  rw [matchSetsOverlap_iff_eq, BitVec.eq_of_getLsbD_eq_iff]
  constructor
  · intro agree n compared compared'
    have bit := agree n (BitVec.lt_of_getLsbD compared)
    simpa [compared, compared'] using bit
  · intro agree n _
    have bit := agree n
    cases compared : m.getLsbD n <;> cases compared' : m'.getLsbD n <;> simp_all

/-- The address that takes the compared bits of both pairs lies in both match sets of an overlap. -/
theorem matchSetsOverlap_iff_shared (a m a' m' : BusAddress) :
    matchSetsOverlap a m a' m' = true ↔ ∃ x, InMatchSet a m x ∧ InMatchSet a' m' x := by
  unfold InMatchSet
  constructor
  · intro overlap
    rw [matchSetsOverlap_iff_bits] at overlap
    refine ⟨(a &&& m) ||| (a' &&& m'), ?_, ?_⟩ <;>
    · refine BitVec.eq_of_getLsbD_eq fun n _ => ?_
      have bit := overlap n
      cases compared : m.getLsbD n <;> cases compared' : m'.getLsbD n <;> simp_all
  · rintro ⟨x, inFirst, inSecond⟩
    rw [matchSetsOverlap_iff_eq, ← inFirst, BitVec.and_assoc x, BitVec.and_comm m,
      ← BitVec.and_assoc, inSecond, BitVec.and_assoc, BitVec.and_comm m', ← BitVec.and_assoc]

theorem Entry.onBus_iff (e : Entry) : e.onBus = true ↔ e.life = .active ∨ e.life = .closing := by
  simp [Entry.onBus]

theorem Entry.matchesAddress_iff (e : Entry) (a : BusAddress) :
    e.matchesAddress a = true ↔ InMatchSet e.address e.mask a := by
  simp [Entry.matchesAddress, InMatchSet]

theorem mem_allTargets (k : Fin 16) : k ∈ allTargets := by
  revert k; decide

/-- ENABLE's test names an entry of the bus, of the same segment, with an overlapping match set (R13). -/
theorem State.conflicts_iff (s : State) (k : Fin 16) :
    s.conflicts k = true ↔ ∃ j, (s.entry j).onBus = true ∧ (s.entry j).segment = (s.entry k).segment
      ∧ matchSetsOverlap (s.entry k).address (s.entry k).mask (s.entry j).address (s.entry j).mask
          = true := by
  simp [State.conflicts, mem_allTargets, and_assoc]

/-- ENABLE's test in the terms of R3: an address shared with an entry of the bus. -/
theorem State.conflicts_iff_shared (s : State) (k : Fin 16) :
    s.conflicts k = true ↔
      ∃ j, ((s.entry j).life = .active ∨ (s.entry j).life = .closing)
        ∧ (s.entry j).segment = (s.entry k).segment
        ∧ ∃ x, InMatchSet (s.entry k).address (s.entry k).mask x
            ∧ InMatchSet (s.entry j).address (s.entry j).mask x := by
  simp only [State.conflicts_iff, Entry.onBus_iff, matchSetsOverlap_iff_shared]

/-! ## Reserved addresses (R2) -/

/-- An address is reserved exactly when its bits 6 to 3 are all 0 or all 1 (1.5). -/
theorem reserved_iff_high_bits : ∀ x : BusAddress, Reserved x ↔ x &&& 0x78 = 0 ∨ x &&& 0x78 = 0x78 := by
  unfold Reserved
  decide

theorem hasReserved_iff_eq (a m : BusAddress) :
    hasReserved a m = true ↔ a &&& m &&& 0x78 = 0 ∨ a &&& m &&& 0x78 = m &&& 0x78 := by
  simp [hasReserved]

/-- The compared bits among bits 6 to 3 can be filled up with 0 or with 1 to a reserved address. -/
theorem hasReserved_iff_exists (a m : BusAddress) :
    hasReserved a m = true ↔ ∃ x, InMatchSet a m x ∧ Reserved x := by
  simp only [hasReserved_iff_eq, reserved_iff_high_bits, InMatchSet]
  constructor
  · rintro (zeros | ones)
    · exact ⟨a &&& m, by rw [BitVec.and_assoc, BitVec.and_self], .inl zeros⟩
    · refine ⟨a &&& m ||| ~~~m, ?_, .inr ?_⟩
      · rw [BitVec.and_comm, BitVec.and_or_distrib_left]
        simp [BitVec.and_comm m, BitVec.and_assoc]
      · rw [BitVec.and_comm, BitVec.and_or_distrib_left, BitVec.and_comm, ones, BitVec.and_comm,
          ← BitVec.and_or_distrib_left]
        simp
  · rintro ⟨x, inSet, zeros | ones⟩
    · left
      rw [← inSet, BitVec.and_assoc, BitVec.and_comm m, ← BitVec.and_assoc, zeros]
      simp
    · right
      rw [← inSet, BitVec.and_assoc, BitVec.and_comm m, ← BitVec.and_assoc, ones]

theorem hasReserved_eq_false_iff (a m : BusAddress) :
    hasReserved a m = false ↔ ∀ x, InMatchSet a m x → ¬ Reserved x := by
  rw [← Bool.not_eq_true, hasReserved_iff_exists]
  push Not
  rfl

/-- Settles O16: overlap by the common address, ENABLE's test entry by entry. -/
theorem overlapIsASharedAddress : Obligations.OverlapIsASharedAddress :=
  ⟨fun a m a' m' => ⟨matchSetsOverlap_iff_shared a m a' m', matchSetsOverlap_iff_bits a m a' m'⟩,
    State.conflicts_iff_shared⟩

/-- Settles O17. -/
theorem reservedTestIsExact : Obligations.ReservedTestIsExact := hasReserved_iff_exists

end Sys2Proof.Machine
end

section
/-! PROOFS. What the laws of the table, of binding and of the waiting command speak about: the entries,
the target of each segment's transaction, and what the engine waits for. `State.tableView` takes these
three out of a state, and `TableView.Lawful` says the three laws of it. -/

namespace Sys2Proof.Machine

open Sys2Proof.Safety

/-- What a WAITING engine awaits and holds. -/
def EngineState.waitsFor : EngineState → Option (Seg × Held)
  | .idle => none
  | .running => none
  | .waiting g h => some (g, h)

/-- The target a segment state is bound to. -/
def SegState.target (x : SegState) : Option (Fin 16) := x.txn.map (·.target)

/-- The part of a state that the laws of the table, of binding and of the waiting command name. -/
structure TableView where
  entry : Fin 16 → Entry
  target : Seg → Option (Fin 16)
  waitsFor : Option (Seg × Held)

/-- The view of a state. -/
def State.tableView (s : State) : TableView where
  entry := s.entry
  target g := (s.seg g).state.target
  waitsFor := s.engine.state.waitsFor

/-- The view with one entry replaced. -/
def TableView.setEntry (v : TableView) (k : Fin 16) (e : Entry) : TableView :=
  { v with entry := Function.update v.entry k e }

/-- The view with one segment bound to another target, or to none. -/
def TableView.bind (v : TableView) (g : Seg) (k : Option (Fin 16)) : TableView :=
  { v with target := Function.update v.target g k }

/-- The view with the engine waiting for something else, or for nothing. -/
def TableView.wait (v : TableView) (w : Option (Seg × Held)) : TableView := { v with waitsFor := w }

/-! ## The view after an update of the view -/

@[simp] theorem TableView.setEntry_entry_same (v : TableView) (k : Fin 16) (e : Entry) :
    (v.setEntry k e).entry k = e := Function.update_self ..

theorem TableView.setEntry_entry_other (v : TableView) {k j : Fin 16} (e : Entry) (ne : j ≠ k) :
    (v.setEntry k e).entry j = v.entry j := Function.update_of_ne ne ..

@[simp] theorem TableView.setEntry_target (v : TableView) (k : Fin 16) (e : Entry) :
    (v.setEntry k e).target = v.target := rfl

@[simp] theorem TableView.setEntry_waitsFor (v : TableView) (k : Fin 16) (e : Entry) :
    (v.setEntry k e).waitsFor = v.waitsFor := rfl

@[simp] theorem TableView.bind_entry (v : TableView) (g : Seg) (k : Option (Fin 16)) :
    (v.bind g k).entry = v.entry := rfl

@[simp] theorem TableView.bind_target_same (v : TableView) (g : Seg) (k : Option (Fin 16)) :
    (v.bind g k).target g = k := Function.update_self ..

theorem TableView.bind_target_other (v : TableView) {g h : Seg} (k : Option (Fin 16)) (ne : h ≠ g) :
    (v.bind g k).target h = v.target h := Function.update_of_ne ne ..

@[simp] theorem TableView.bind_waitsFor (v : TableView) (g : Seg) (k : Option (Fin 16)) :
    (v.bind g k).waitsFor = v.waitsFor := rfl

@[simp] theorem TableView.wait_entry (v : TableView) (w : Option (Seg × Held)) :
    (v.wait w).entry = v.entry := rfl

@[simp] theorem TableView.wait_target (v : TableView) (w : Option (Seg × Held)) :
    (v.wait w).target = v.target := rfl

@[simp] theorem TableView.wait_waitsFor (v : TableView) (w : Option (Seg × Held)) :
    (v.wait w).waitsFor = w := rfl

/-- A view bound as it is stays as it is. -/
theorem TableView.bind_of_eq {v : TableView} {g : Seg} {k : Option (Fin 16)} (h : v.target g = k) :
    v.bind g k = v := by
  subst h
  simp [TableView.bind]

@[simp] theorem TableView.bind_bind (v : TableView) (g : Seg) (k l : Option (Fin 16)) :
    (v.bind g k).bind g l = v.bind g l := by
  simp [TableView.bind]

/-- A view that waits as it does stays as it is. -/
theorem TableView.wait_of_eq {v : TableView} {w : Option (Seg × Held)} (h : v.waitsFor = w) :
    v.wait w = v := by
  subst h
  rfl

@[simp] theorem TableView.setEntry_setEntry (v : TableView) (k : Fin 16) (e d : Entry) :
    (v.setEntry k e).setEntry k d = v.setEntry k d := by
  simp [TableView.setEntry]

/-! ## The view after an update of the state -/

@[simp] theorem State.tableView_setEntry (s : State) (k : Fin 16) (e : Entry) :
    (s.setEntry k e).tableView = s.tableView.setEntry k e := by
  simp [State.tableView, TableView.setEntry]
  funext j
  simp [State.setEntry_entry, Function.update_apply]

@[simp] theorem State.tableView_onEntry (s : State) (k : Fin 16) (f : Entry → Entry) :
    (s.onEntry k f).tableView = s.tableView.setEntry k (f (s.entry k)) :=
  State.tableView_setEntry ..

@[simp] theorem State.tableView_setSeg (s : State) (g : Seg) (x : Segment) :
    (s.setSeg g x).tableView = s.tableView.bind g x.state.target := by
  simp only [State.tableView, TableView.bind, TableView.mk.injEq, State.setSeg_engine, and_true]
  constructor
  · funext k; simp
  · funext h
    by_cases same : h = g
    · subst same; simp
    · simp [same]

@[simp] theorem State.tableView_onSeg (s : State) (g : Seg) (f : Segment → Segment) :
    (s.onSeg g f).tableView = s.tableView.bind g (f (s.seg g)).state.target :=
  State.tableView_setSeg ..

/-- A change of a segment that keeps its transaction's target is not seen. -/
theorem State.tableView_onSeg_of_target {s : State} {g : Seg} {f : Segment → Segment}
    (same : (f (s.seg g)).state.target = (s.seg g).state.target) :
    (s.onSeg g f).tableView = s.tableView := by
  rw [State.tableView_onSeg]
  exact TableView.bind_of_eq same.symm

@[simp] theorem State.tableView_setLines (s : State) (g : Seg) (l : Lines) :
    (s.setLines g l).tableView = s.tableView := by
  cases g <;> rfl

@[simp] theorem State.tableView_lowerClock (s : State) (g : Seg) :
    (s.lowerClock g).tableView = s.tableView := State.tableView_setLines ..

@[simp] theorem State.tableView_raiseClock (s : State) (g : Seg) (sda : Bool) :
    (s.raiseClock g sda).tableView = s.tableView := State.tableView_setLines ..

@[simp] theorem State.tableView_post (s : State) (k : EventKind) :
    (s.post k).tableView = s.tableView := rfl

@[simp] theorem State.tableView_setHost (s : State) (h : HostState) :
    (s.setHost h).tableView = s.tableView := rfl

@[simp] theorem State.tableView_complete (s : State) (r : ResultCode) :
    (s.complete r).tableView = s.tableView.wait none := rfl

@[simp] theorem State.tableView_await (s : State) (g : Seg) (h : Held) :
    (s.await g h).tableView = s.tableView.wait (some (g, h)) := rfl

@[simp] theorem State.tableView_writeResults (s : State) (i : Nat) (l : List Byte) :
    (s.writeResults i l).tableView = s.tableView := rfl

@[simp] theorem State.tableView_putImage (s : State) (k : Fin 16) (p : Byte) (l : List Byte) :
    (s.putImage k p l).tableView = s.tableView := rfl

@[simp] theorem State.tableView_applyByte (s : State) (k : Fin 16) (b : Byte) :
    (s.applyByte k b).tableView = s.tableView := rfl

@[simp] theorem State.tableView_discardRecords (s : State) (g : Seg) :
    (s.discardRecords g).tableView = s.tableView := rfl

@[simp] theorem State.tableView_endRead (s : State) : s.endRead.tableView = s.tableView := rfl

@[simp] theorem State.tableView_commitRecords (s : State) (g : Seg) (cause : CommitCause)
    (l : List OpenRecord) : (s.commitRecords g cause l).tableView = s.tableView := by
  obtain ⟨index, events, equal⟩ := State.commitRecords_eq s g cause l
  rw [equal]
  rfl

/-! ## The three laws of a view -/

/-- What the held values of a waiting command promise when its awaited segment is bound to `k`: the view's
form of `HeldLawful`. -/
def TableView.Promise (v : TableView) (k : Fin 16) : Held → Prop
  | .disable j => k = j ∧ (v.entry j).life = .closing
  | .regions j l =>
    k = j ∧ (v.entry j).life = .active ∧ l.length ≤ Config.maxRegions
    ∧ validRegions (v.entry j).length l = true
  | .imagePut j offset bytes =>
    k = j ∧ (v.entry j).life = .active ∧ offset.toNat + bytes.length ≤ (v.entry j).length
  | .segment c => ConfigInRange c ∧ (v.entry k).life = .active

/-- The laws of the table, of binding and of the waiting command, of a view. -/
structure TableView.Lawful (v : TableView) : Prop where
  entryLaw : ∀ k, EntryLaw (v.entry k)
  apart : ∀ j k, j ≠ k → EntriesApart (v.entry j) (v.entry k)
  bound : ∀ g k, v.target g = some k → (v.entry k).onBus = true ∧ (v.entry k).segment = g
  waiting : ∀ g h, v.waitsFor = some (g, h) → ∃ k, v.target g = some k ∧ v.Promise k h
  closing : ∀ k, (v.entry k).life = .closing →
    v.waitsFor = some ((v.entry k).segment, .disable k)

theorem EngineState.waitsFor_eq_some {x : EngineState} {g : Seg} {h : Held} :
    x.waitsFor = some (g, h) ↔ x = .waiting g h := by
  cases x <;> simp [EngineState.waitsFor]

theorem SegState.target_eq_some {x : SegState} {k : Fin 16} :
    x.target = some k ↔ ∃ t, x.txn = some t ∧ t.target = k := by
  simp [SegState.target]

theorem heldLawful_iff_promise (s : State) (t : Txn) (h : Held) :
    HeldLawful s t h ↔ s.tableView.Promise t.target h := by
  cases h <;> rfl

/-- The three laws of a state are those of its view. -/
theorem State.tableView_lawful_iff (s : State) :
    s.tableView.Lawful ↔ TableLawful s ∧ BindingsLawful s ∧ WaitingLawful s := by
  constructor
  · intro law
    refine ⟨⟨law.entryLaw, law.apart⟩, fun g t txn => ?_, fun g h w => ?_, fun k closing => ?_⟩
    · exact law.bound g t.target (SegState.target_eq_some.2 ⟨t, txn, rfl⟩)
    · obtain ⟨k, target, promise⟩ := law.waiting g h (EngineState.waitsFor_eq_some.2 w)
      obtain ⟨t, txn, rfl⟩ := SegState.target_eq_some.1 target
      exact ⟨t, txn, (heldLawful_iff_promise s t h).2 promise⟩
    · exact EngineState.waitsFor_eq_some.1 (law.closing k closing)
  · rintro ⟨⟨entryLaw, apart⟩, bindings, waiting, closing⟩
    refine ⟨entryLaw, apart, fun g k target => ?_, fun g h w => ?_, fun k life => ?_⟩
    · obtain ⟨t, txn, rfl⟩ := SegState.target_eq_some.1 target
      exact bindings g t txn
    · obtain ⟨t, txn, held⟩ := waiting g h (EngineState.waitsFor_eq_some.1 w)
      exact ⟨t.target, SegState.target_eq_some.2 ⟨t, txn, rfl⟩, (heldLawful_iff_promise s t h).1 held⟩
    · exact EngineState.waitsFor_eq_some.2 (closing k life)

end Sys2Proof.Machine
end

section
/-! PROOFS. Region lists: the list REGIONS stores keeps the law of R26. -/

namespace Sys2Proof.Machine

open Sys2Proof.Safety

/-- Storing in order of start is an insertion sort by the start (R36). -/
theorem sortRegions_eq_insertionSort (l : List Region) :
    sortRegions l = l.insertionSort (fun r q => r.start.toNat ≤ q.start.toNat) := by
  have insert_eq (r : Region) (l : List Region) :
      insertRegion r l = l.orderedInsert (fun r q => r.start.toNat ≤ q.start.toNat) r := by
    induction l with
    | nil => rfl
    | cons q l ih => simp only [insertRegion, List.orderedInsert_cons, ih]
  induction l with
  | nil => rfl
  | cons r l ih => rw [sortRegions, ih, insert_eq, List.insertionSort_cons]

theorem sortRegions_perm (l : List Region) : (sortRegions l).Perm l := by
  rw [sortRegions_eq_insertionSort]
  exact List.perm_insertionSort _ l

theorem sortRegions_pairwise (l : List Region) :
    (sortRegions l).Pairwise fun r q => r.start.toNat ≤ q.start.toNat := by
  have total : Std.Total fun r q : Region => r.start.toNat ≤ q.start.toNat :=
    ⟨fun r q => Nat.le_total r.start.toNat q.start.toNat⟩
  have trans : IsTrans Region fun r q => r.start.toNat ≤ q.start.toNat := ⟨fun _ _ _ => Nat.le_trans⟩
  rw [sortRegions_eq_insertionSort]
  exact List.pairwise_insertionSort _ l

theorem disjointRegions_iff (l : List Region) :
    disjointRegions l = true ↔ l.Pairwise fun r q => r.meets q = false := by
  induction l with
  | nil => simp [disjointRegions]
  | cons r l ih => simp [disjointRegions, ih]

theorem Region.meets_comm (r q : Region) : r.meets q = q.meets r := Bool.and_comm ..

/-- The order of a list does not matter to its validity (R35). -/
theorem validRegions_of_perm {length : Nat} {l m : List Region} (perm : l.Perm m)
    (valid : validRegions length m = true) : validRegions length l = true := by
  simp only [validRegions, Bool.and_eq_true, List.all_eq_true, disjointRegions_iff] at *
  obtain ⟨inside, apart⟩ := valid
  refine ⟨fun r mem => inside r (perm.mem_iff.1 mem), (perm.pairwise_iff ?_).2 apart⟩
  intro r q apart
  rwa [Region.meets_comm]

/-- A valid list of at most four regions is stored in order (R26, R36). -/
theorem regionsInOrder_sortRegions {length : Nat} {l : List Region} (few : l.length ≤ Config.maxRegions)
    (valid : validRegions length l = true) : RegionsInOrder length (sortRegions l) :=
  ⟨(sortRegions_perm l).length_eq ▸ few, sortRegions_pairwise l,
    validRegions_of_perm (sortRegions_perm l) valid⟩

theorem allOf_length {α : Type} {items : List (Option α)} {l : List α} (h : allOf items = some l) :
    l.length = items.length := by
  induction items generalizing l with
  | nil => cases h; rfl
  | cons a rest ih =>
    cases a with
    | none => cases h
    | some a =>
      rw [allOf] at h
      cases tail : allOf rest with
      | none => simp [tail] at h
      | some m =>
        simp only [tail, Option.some.injEq] at h
        simp [← h, ih tail]

/-- REGIONS reads at most four regions (8.8). -/
theorem regionList_length {p : Params} {l : List Region} (h : regionList p = some l) :
    l.length ≤ Config.maxRegions := by
  unfold regionList at h
  split at h
  · rename_i few
    rw [allOf_length h, List.length_take]
    exact (Nat.min_le_left ..).trans few
  · cases h

/-- IMAGE_PUT holds no more bytes than its count (8.8). -/
theorem putBytes_length_le (p : Params) : (putBytes p).length ≤ p[2].toNat := by
  rw [putBytes, List.length_take]
  exact Nat.min_le_left ..

/-- The values SEGMENT takes lie in the ranges of R67. -/
theorem segmentParams_inRange {p : Params} {g : Seg} {on : Bool} {c : SegConfig}
    (h : segmentParams p = some (g, on, c)) : ConfigInRange c := by
  unfold segmentParams at h
  split at h
  · split at h
    · rename_i inRange
      cases h
      exact inRange
    · cases h
  · cases h

end Sys2Proof.Machine
end

section
/-! PROOFS. What each change that the part makes to the table, to a binding or to the waiting command keeps
of their laws, on the view alone. -/

namespace Sys2Proof.Machine

open Sys2Proof.Safety

/-! ## One entry and two entries -/

theorem rangesShare_comm (base length base' length' : Nat) :
    rangesShare base length base' length' = rangesShare base' length' base length := Bool.and_comm ..

theorem entriesApart_symm {e d : Entry} (h : EntriesApart e d) : EntriesApart d e := by
  obtain ⟨ranges, matchSets⟩ := h
  refine ⟨fun used used' => ?_, fun bus bus' same => ?_⟩
  · rw [rangesShare_comm]
    exact ranges used' used
  · rw [matchSetsOverlap_comm]
    exact matchSets bus' bus same.symm

theorem Entry.not_free_of_onBus {e : Entry} (bus : e.onBus = true) : e.life ≠ .free := by
  rcases (Entry.onBus_iff e).1 bus with life | life <;> simp [life]

/-- A FREE entry keeps every law, whatever its generation. -/
theorem entryLaw_freeWith (generation : Byte) : EntryLaw (Entry.freeWith generation) :=
  ⟨fun _ => rfl, fun used => absurd rfl used⟩

theorem entriesApart_freeWith (generation : Byte) (e : Entry) :
    EntriesApart (Entry.freeWith generation) e :=
  ⟨fun used => absurd rfl used, fun bus => by cases bus⟩

theorem entryLaw_become {e : Entry} {l : LifeState} (law : EntryLaw e) (used : e.life ≠ .free)
    (stays : l ≠ .free) : EntryLaw (e.become l) :=
  ⟨fun free => absurd free stays, fun _ => law.2 used⟩

theorem entriesApart_become {e d : Entry} {l : LifeState} (apart : EntriesApart e d)
    (used : e.life ≠ .free) (bus : (e.become l).onBus = true → e.onBus = true) :
    EntriesApart (e.become l) d :=
  ⟨fun _ => apart.1 used, fun now => apart.2 (bus now)⟩

namespace TableView.Lawful

variable {v : TableView}

/-! ## Consequences of the laws -/

/-- With no command waiting no entry is CLOSING (2.4). -/
theorem not_closing (law : v.Lawful) (idle : v.waitsFor = none) (k : Fin 16) :
    (v.entry k).life ≠ .closing := by
  intro closing
  have waits := law.closing k closing
  rw [idle] at waits
  cases waits

/-- An entry that its own segment is not bound to is not bound at all (R51). -/
theorem not_bound (law : v.Lawful) {k : Fin 16} (own : v.target (v.entry k).segment ≠ some k) (g : Seg) :
    v.target g ≠ some k := by
  intro target
  obtain ⟨-, segment⟩ := law.bound g k target
  exact own (segment ▸ target)

/-- An entry that is neither ACTIVE nor CLOSING is not bound (R51). -/
theorem not_bound_of_not_onBus (law : v.Lawful) {k : Fin 16} (off : (v.entry k).onBus = false) (g : Seg) :
    v.target g ≠ some k := by
  intro target
  have bus := (law.bound g k target).1
  rw [off] at bus
  cases bus

/-! ## Changes of the table -/

/-- An entry replaced by one that keeps the laws beside the others, with what waits afterwards. -/
theorem setEntryAndWait (law : v.Lawful) {k : Fin 16} {e : Entry} {w : Option (Seg × Held)}
    (own : EntryLaw e) (apart : ∀ j, j ≠ k → EntriesApart e (v.entry j))
    (bound : ∀ g, v.target g = some k → e.onBus = true ∧ e.segment = g)
    (waiting : ∀ g h, w = some (g, h) → ∃ j, v.target g = some j ∧ (v.setEntry k e).Promise j h)
    (closes : e.life = .closing → w = some (e.segment, .disable k))
    (closing : ∀ j, j ≠ k → (v.entry j).life = .closing → w = some ((v.entry j).segment, .disable j)) :
    ((v.setEntry k e).wait w).Lawful where
  entryLaw j := by
    by_cases same : j = k
    · subst same; simpa using own
    · simpa [TableView.setEntry_entry_other v e same] using law.entryLaw j
  apart i j ne := by
    by_cases first : i = k
    · subst first
      simpa [TableView.setEntry_entry_other v e ne.symm] using apart j ne.symm
    · by_cases second : j = k
      · subst second
        simpa [TableView.setEntry_entry_other v e ne] using entriesApart_symm (apart i ne)
      · simpa [TableView.setEntry_entry_other v e first, TableView.setEntry_entry_other v e second]
          using law.apart i j ne
  bound g j target := by
    by_cases same : j = k
    · subst same; simpa using bound g target
    · simpa [TableView.setEntry_entry_other v e same] using law.bound g j target
  waiting g h waits := by
    obtain ⟨j, target, promise⟩ := waiting g h waits
    exact ⟨j, target, by cases h <;> exact promise⟩
  closing j life := by
    by_cases same : j = k
    · subst same; simpa using closes (by simpa using life)
    · simpa [TableView.setEntry_entry_other v e same] using
        closing j same (by simpa [TableView.setEntry_entry_other v e same] using life)

/-- An entry replaced by one that is not CLOSING, beside none that is, with nothing waiting afterwards. -/
theorem setEntry (law : v.Lawful) {k : Fin 16} {e : Entry} (own : EntryLaw e) (settled : e.life ≠ .closing)
    (others : ∀ j, j ≠ k → (v.entry j).life ≠ .closing)
    (apart : ∀ j, j ≠ k → EntriesApart e (v.entry j))
    (bound : ∀ g, v.target g = some k → e.onBus = true ∧ e.segment = g) :
    ((v.setEntry k e).wait none).Lawful :=
  law.setEntryAndWait own apart bound (fun _ _ waits => by cases waits)
    (fun closing => absurd closing settled) fun j ne closing => absurd closing (others j ne)

/-- The pointer and the region list of a used entry change, whatever waits (R29, R33, R36). -/
theorem setPointerAndRegions (law : v.Lawful) {k : Fin 16} (pointer : Byte) {regions : List Region}
    (used : (v.entry k).life ≠ .free) (order : RegionsInOrder (v.entry k).length regions) :
    (v.setEntry k { v.entry k with pointer := pointer, regions := regions }).Lawful := by
  have shape (j : Fin 16) : ∃ p l,
      (v.setEntry k { v.entry k with pointer := pointer, regions := regions }).entry j
        = { v.entry j with pointer := p, regions := l } := by
    by_cases same : j = k
    · subst same; exact ⟨pointer, regions, TableView.setEntry_entry_same ..⟩
    · exact ⟨(v.entry j).pointer, (v.entry j).regions, TableView.setEntry_entry_other v _ same⟩
  refine ⟨fun j => ?_, fun i j ne => ?_, fun g j target => ?_, fun g h waits => ?_, fun j => ?_⟩
  · by_cases same : j = k
    · subst same
      rw [TableView.setEntry_entry_same]
      obtain ⟨nonempty, short, inside, open_, -⟩ := (law.entryLaw j).2 used
      exact ⟨fun free => absurd free used, fun _ => ⟨nonempty, short, inside, open_, order⟩⟩
    · rw [TableView.setEntry_entry_other v _ same]
      exact law.entryLaw j
  · obtain ⟨p, l, first⟩ := shape i
    obtain ⟨q, m, second⟩ := shape j
    rw [first, second]
    exact law.apart i j ne
  · obtain ⟨p, l, equal⟩ := shape j
    rw [equal]
    exact law.bound g j target
  · obtain ⟨j, target, promise⟩ := law.waiting g h waits
    refine ⟨j, target, ?_⟩
    cases h with
    | disable i => obtain ⟨p, l, equal⟩ := shape i; simpa only [TableView.Promise, equal] using promise
    | regions i m => obtain ⟨p, l, equal⟩ := shape i; simpa only [TableView.Promise, equal] using promise
    | imagePut i o b =>
      obtain ⟨p, l, equal⟩ := shape i; simpa only [TableView.Promise, equal] using promise
    | segment c => obtain ⟨p, l, equal⟩ := shape j; simpa only [TableView.Promise, equal] using promise
  · obtain ⟨p, l, equal⟩ := shape j
    rw [equal]
    exact law.closing j

/-- The pointer of a used entry changes, whatever waits (R29, R33). -/
theorem setPointer (law : v.Lawful) {k : Fin 16} (pointer : Byte) (used : (v.entry k).life ≠ .free) :
    (v.setEntry k { v.entry k with pointer := pointer }).Lawful := by
  obtain ⟨-, -, -, -, order⟩ := (law.entryLaw k).2 used
  exact law.setPointerAndRegions pointer used order

/-- A used entry that is not bound becomes DEFINED while nothing waits (R15, R18). -/
theorem becomeDefined (law : v.Lawful) (idle : v.waitsFor = none) {k : Fin 16}
    (used : (v.entry k).life ≠ .free) (unbound : ∀ g, v.target g ≠ some k) :
    ((v.setEntry k ((v.entry k).become .defined)).wait none).Lawful :=
  law.setEntry (entryLaw_become (law.entryLaw k) used (by decide)) (by simp [Entry.become])
    (fun j _ => law.not_closing idle j)
    (fun j ne => entriesApart_become (law.apart k j ne.symm) used fun bus => by cases bus)
    fun g target => absurd target (unbound g)

/-! ## Changes of a binding -/

/-- A segment that no command awaits becomes unbound (R64). -/
theorem unbind (law : v.Lawful) {g : Seg} (free : ∀ h, v.waitsFor ≠ some (g, h)) :
    (v.bind g none).Lawful where
  entryLaw := law.entryLaw
  apart := law.apart
  bound h k target := by
    by_cases same : h = g
    · subst same; simp at target
    · exact law.bound h k (by simpa [TableView.bind_target_other v none same] using target)
  waiting h held waits := by
    have other : h ≠ g := by rintro rfl; exact free held waits
    rw [TableView.bind_target_other v none other]
    exact law.waiting h held waits
  closing := law.closing

/-- A segment that is not bound binds to an ACTIVE entry of its own (R52). -/
theorem bindActive (law : v.Lawful) {g : Seg} {k : Fin 16} (free : v.target g = none)
    (active : (v.entry k).life = .active) (own : (v.entry k).segment = g) :
    (v.bind g (some k)).Lawful where
  entryLaw := law.entryLaw
  apart := law.apart
  bound h j target := by
    by_cases same : h = g
    · subst same
      obtain rfl : k = j := by simpa using target
      exact ⟨(Entry.onBus_iff _).2 (.inl active), own⟩
    · exact law.bound h j (by simpa [TableView.bind_target_other v _ same] using target)
  waiting h held waits := by
    obtain ⟨j, target, promise⟩ := law.waiting h held waits
    have other : h ≠ g := by rintro rfl; rw [free] at target; cases target
    exact ⟨j, by rwa [TableView.bind_target_other v _ other], promise⟩
  closing := law.closing

/-! ## Changes of the waiting command -/

/-- A waiting command that is no DISABLE goes away (R146, R147). -/
theorem dismiss (law : v.Lawful) (settled : ∀ k, (v.entry k).life ≠ .closing) : (v.wait none).Lawful where
  entryLaw := law.entryLaw
  apart := law.apart
  bound := law.bound
  waiting g h waits := by cases waits
  closing k closing := absurd closing (settled k)

/-- While something other than a DISABLE waits no entry is CLOSING (2.4). -/
theorem not_closing_of_waits (law : v.Lawful) {g : Seg} {h : Held} (waits : v.waitsFor = some (g, h))
    (other : ∀ k, h ≠ .disable k) (k : Fin 16) : (v.entry k).life ≠ .closing := by
  intro closing
  have disabling := law.closing k closing
  rw [waits] at disabling
  cases disabling
  exact other k rfl

/-- A command comes to wait for a bound transaction and makes no entry CLOSING (R144). -/
theorem await (law : v.Lawful) (idle : v.waitsFor = none) {g : Seg} {k : Fin 16} {h : Held}
    (target : v.target g = some k) (promise : v.Promise k h) : (v.wait (some (g, h))).Lawful where
  entryLaw := law.entryLaw
  apart := law.apart
  bound := law.bound
  waiting _ _ waits := by cases waits; exact ⟨k, target, by cases h <;> exact promise⟩
  closing j closing := absurd closing (law.not_closing idle j)

/-- A graceful DISABLE makes a bound entry CLOSING and waits for its transaction (R15). -/
theorem close (law : v.Lawful) (idle : v.waitsFor = none) {k : Fin 16}
    (target : v.target (v.entry k).segment = some k) :
    ((v.setEntry k ((v.entry k).become .closing)).wait
      (some ((v.entry k).segment, .disable k))).Lawful := by
  have bus := (law.bound _ k target).1
  have used := Entry.not_free_of_onBus bus
  refine law.setEntryAndWait (entryLaw_become (law.entryLaw k) used (by decide))
    (fun j ne => entriesApart_become (law.apart k j ne.symm) used fun _ => bus)
    (fun g bound => ⟨rfl, (law.bound g k bound).2⟩) (fun g h waits => ?_) (fun _ => rfl)
    fun j _ closing => absurd closing (law.not_closing idle j)
  cases waits
  exact ⟨k, target, rfl, by rw [TableView.setEntry_entry_same]; rfl⟩

/-- The withdrawal of a waiting DISABLE makes its entry ACTIVE again (R17, R147). -/
theorem withdraw (law : v.Lawful) {g : Seg} {k : Fin 16} (waits : v.waitsFor = some (g, .disable k)) :
    ((v.setEntry k ((v.entry k).become .active)).wait none).Lawful := by
  obtain ⟨j, target, rfl, closing⟩ := law.waiting g _ waits
  obtain ⟨bus, own⟩ := law.bound g j target
  have used := Entry.not_free_of_onBus bus
  refine law.setEntry (entryLaw_become (law.entryLaw j) used (by decide)) (by simp [Entry.become])
    (fun i ne closing => ?_) (fun i ne => entriesApart_become (law.apart j i ne.symm) used fun _ => bus)
    fun h target => ⟨rfl, (law.bound h j target).2⟩
  have disabling := law.closing i closing
  rw [waits] at disabling
  cases disabling
  exact ne rfl

end TableView.Lawful

end Sys2Proof.Machine
end

section
/-! PROOFS. What the operands of the table commands say: the two-valued codes, DEFINE's parameters in the
spec's own terms (R11), and image ranges (R10). -/

namespace Sys2Proof.Machine

open Sys2Proof.Safety

/-! ## Codes -/

/-- An item with the codes `$00` and `$01` alone (8.8). -/
theorem twoCodes_eq {α : Type} (b : Byte) (first second : α) :
    (if b = 0x00 then some first else if b = 0x01 then some second else none)
      = if b.toNat ≤ 1 then some (if b = 0 then first else second) else none := by
  by_cases zero : b = 0
  · simp [zero]
  · by_cases one : b = 1
    · simp [one]
    · have large : ¬ b.toNat ≤ 1 := by bv_omega
      rw [if_neg zero, if_neg one, if_neg large]

theorem segOfCode_eq (b : Byte) :
    segOfCode b = if b.toNat ≤ 1 then some (if b = 0 then .A else .B) else none := twoCodes_eq ..

theorem wrapOfCode_eq (b : Byte) :
    wrapOfCode b = if b.toNat ≤ 1 then some (if b = 0 then .wrap else .run) else none := twoCodes_eq ..

theorem sleepOfCode_eq (b : Byte) :
    sleepOfCode b = if b.toNat ≤ 1 then some (if b = 0 then .fill else .wait) else none := twoCodes_eq ..

theorem disableModeOfCode_eq (b : Byte) : disableModeOfCode b =
    if b.toNat ≤ 1 then some (if b = 0 then .graceful else .forced) else none := twoCodes_eq ..

/-! ## DEFINE's parameters (R11) -/

/-- The configuration DEFINE's parameters spell (8.8). -/
def requestedConfig (p : Params) : TargetConfig where
  segment := if p[1] = 0 then .A else .B
  address := p[2].setWidth 7
  mask := p[3].setWidth 7
  base := 256 * p[4].toNat + p[5].toNat
  length := 256 * p[6].toNat + p[7].toNat
  fill := p[8]
  wrap := if p[9] = 0 then .wrap else .run
  sleep := if p[10] = 0 then .fill else .wait

/-- DEFINE's parameters are valid: step 3 of R11 in the spec's terms. -/
def ValidConfig (p : Params) : Prop :=
  p[1].toNat ≤ 1 ∧ p[2].toNat < 128 ∧ p[3].toNat < 128 ∧ 1 ≤ (requestedConfig p).length
  ∧ (requestedConfig p).length ≤ 256 ∧ (requestedConfig p).base ≤ 2047
  ∧ (requestedConfig p).base + (requestedConfig p).length ≤ 2048 ∧ p[9].toNat ≤ 1 ∧ p[10].toNat ≤ 1
  ∧ ∀ x, InMatchSet (requestedConfig p).address (requestedConfig p).mask x → ¬ Reserved x

/-- Step 3 of R11 finds the parameters valid in the spec's terms, and reads the configuration they spell. -/
theorem targetConfig_eq_some_iff (p : Params) (c : TargetConfig) :
    targetConfig p = some c ↔ ValidConfig p ∧ requestedConfig p = c := by
  unfold targetConfig
  rw [segOfCode_eq, wrapOfCode_eq, sleepOfCode_eq]
  by_cases segment : p[1].toNat ≤ 1
  · by_cases wrap : p[9].toNat ≤ 1
    · by_cases sleep : p[10].toNat ≤ 1
      · simp only [segment, wrap, sleep, if_true, Option.ite_none_right_eq_some, Option.some.injEq]
        refine and_congr ?_ Iff.rfl
        simp only [ValidConfig, segment, wrap, sleep, true_and, hasReserved_eq_false_iff, twoBytes,
          requestedConfig, Config.imageBytes]
        refine and_congr_right' (and_congr_right' (and_congr_right' (and_congr_right' (and_congr_left' ?_))))
        omega
      · simp [segment, wrap, sleep, ValidConfig]
    · simp [segment, wrap, ValidConfig]
  · simp [segment, ValidConfig]

theorem targetConfig_of_valid {p : Params} (valid : ValidConfig p) :
    targetConfig p = some (requestedConfig p) :=
  (targetConfig_eq_some_iff p _).2 ⟨valid, rfl⟩

theorem targetConfig_of_not_valid {p : Params} (invalid : ¬ ValidConfig p) : targetConfig p = none := by
  rw [Option.eq_none_iff_forall_ne_some]
  exact fun c found => invalid ((targetConfig_eq_some_iff p c).1 found).1

/-! ## Image ranges (R10) -/

/-- Two image ranges that are not empty share an offset exactly when each begins before the other ends. -/
theorem rangesShare_iff {base length base' length' : Nat} (some : 1 ≤ length) (some' : 1 ≤ length') :
    rangesShare base length base' length' = true ↔
      ∃ o, InRange base length o ∧ InRange base' length' o := by
  simp only [rangesShare, Bool.and_eq_true, decide_eq_true_eq, InRange]
  constructor
  · rintro ⟨before, before'⟩
    exact ⟨max base base', by omega, by omega⟩
  · rintro ⟨o, inFirst, inSecond⟩
    omega

/-- The image test of R11 names a used entry whose range meets the new one. -/
theorem State.rangeTaken_iff (s : State) (base length : Nat) :
    s.rangeTaken base length = true ↔ ∃ j, (s.entry j).life ≠ .free
      ∧ rangesShare base length (s.entry j).base (s.entry j).length = true := by
  simp [State.rangeTaken, mem_allTargets]

/-- The image test of R11 in the terms of R10. -/
theorem State.rangeTaken_iff_shared {s : State} {base length : Nat} (some : 1 ≤ length)
    (used : ∀ j, (s.entry j).life ≠ .free → 1 ≤ (s.entry j).length) :
    s.rangeTaken base length = true ↔ ∃ j, (s.entry j).life ≠ .free
      ∧ ∃ o, InRange base length o ∧ InRange (s.entry j).base (s.entry j).length o := by
  rw [State.rangeTaken_iff]
  exact exists_congr fun j => and_congr_right fun life => rangesShare_iff some (used j life)

/-- The entry a valid DEFINE makes keeps the law of an entry (R4, R10, R26). -/
theorem entryLaw_definedEntry {p : Params} (valid : ValidConfig p) (generation : Byte) :
    EntryLaw (definedEntry (requestedConfig p) generation) := by
  obtain ⟨-, -, -, nonempty, short, -, inside, -, -, open_⟩ := valid
  refine ⟨fun free => (by cases free), fun _ => ⟨nonempty, short, inside, ?_, Nat.zero_le _, .nil, rfl⟩⟩
  exact (hasReserved_eq_false_iff _ _).2 open_

end Sys2Proof.Machine
end

section
/-! PROOFS. What the shared operations do to the view, and that each keeps its laws: the end of a
transaction, abandonment, the bytes of a transaction and the ticks. -/

namespace Sys2Proof.Machine

open Sys2Proof.Safety

/-! ## Bindings of a segment -/

theorem Segment.target_of_txn {x : Segment} {t : Txn} (h : x.txn = some t) :
    x.state.target = some t.target := SegState.target_eq_some.2 ⟨t, h, rfl⟩

theorem Segment.target_eq_none {x : Segment} (h : x.txn = none) : x.state.target = none := by
  rw [SegState.target, ← Segment.txn, h]
  rfl

/-- A segment that stays with the target of its transaction: the view does not change. -/
theorem State.tableView_onSeg_of_txn {s : State} {g : Seg} {t : Txn} {f : Segment → Segment}
    (txn : (s.seg g).txn = some t) (stays : (f (s.seg g)).state.target = some t.target) :
    (s.onSeg g f).tableView = s.tableView :=
  State.tableView_onSeg_of_target (stays.trans (Segment.target_of_txn txn).symm)

theorem Segment.takeRise_state (line : Bool) (x : Segment) : (x.takeRise line).state = x.state := by
  unfold Segment.takeRise
  split
  · split <;> rfl
  · rfl

theorem Segment.settle_state (x : Segment) : x.settle.state = x.state := by
  unfold Segment.settle
  split <;> rfl

theorem Segment.presentNext_state (x : Segment) : x.presentNext.state = x.state := by
  unfold Segment.presentNext
  split
  · split <;> rfl
  · rfl

theorem Segment.takeFall_state (x : Segment) : x.takeFall.state = x.state := by
  unfold Segment.takeFall
  split
  case h_3 => exact x.settle_state
  case h_5 => exact x.settle_state
  case h_6 => exact x.settle_state
  case h_7 => exact x.settle_state
  case h_8 => exact x.presentNext_state
  all_goals rfl

/-! ## The laws of the view through a state -/

section Laws

variable {s : State} (law : s.tableView.Lawful)
include law

/-- The target of a bound segment is a used entry (R51). -/
theorem State.used_of_txn {g : Seg} {t : Txn} (txn : (s.seg g).txn = some t) :
    (s.entry t.target).life ≠ .free :=
  Entry.not_free_of_onBus (law.bound g t.target (Segment.target_of_txn txn)).1

/-- The pointer of a bound target moves. -/
theorem State.onEntry_pointer_lawful {g : Seg} {t : Txn} (txn : (s.seg g).txn = some t)
    {f : Entry → Entry} {p : Byte}
    (moves : f (s.entry t.target) = { s.entry t.target with pointer := p }) :
    (s.onEntry t.target f).tableView.Lawful := by
  rw [State.tableView_onEntry, moves]
  exact law.setPointer p (State.used_of_txn law txn)

end Laws

/-! ## The end of a transaction (4.7) -/

/-- While nothing waits an end reaches no command. -/
theorem State.completeWaiting_of_idle {s : State} (idle : s.tableView.waitsFor = none) (g : Seg) :
    s.completeWaiting g = s := by
  rcases State.completeWaiting_cases s g with ⟨h, waits, -⟩ | ⟨-, same⟩
  · rw [← EngineState.waitsFor_eq_some] at waits
    exact absurd (waits.symm.trans idle) (by simp)
  · exact same

/-- Up to the waiting command, the end of a transaction only takes the binding out of the view. -/
theorem State.endTransaction_eq_completeWaiting (s : State) (g : Seg) (t : Txn) (cause : EndCause)
    (after : SegState) : ∃ u : State, u.tableView = s.tableView.bind g after.target
      ∧ s.endTransaction g t cause after = u.completeWaiting g := by
  cases cause with
  | commit c =>
    exact ⟨(s.onSeg g (Segment.unbind after)).commitRecords g c t.records, by simp [Segment.unbind], rfl⟩
  | abandoned =>
    exact ⟨(s.onSeg g (Segment.unbind after)).discardRecords g, by simp [Segment.unbind], rfl⟩

namespace TableView.Lawful

variable {v : TableView}

/-- The end of a transaction that a DISABLE awaits: withdrawal, unbinding and DEFINED at once (R16). -/
theorem endDisable (law : v.Lawful) {g : Seg} {k : Fin 16} (waits : v.waitsFor = some (g, .disable k)) :
    (((v.bind g none).setEntry k ((v.entry k).become .defined)).wait none).Lawful := by
  have active := law.withdraw waits
  obtain ⟨j, target, rfl, -⟩ := law.waiting g _ waits
  have own := (law.bound g j target).2
  have unbound := active.unbind (g := g) fun h waits => by cases waits
  have after := unbound.becomeDefined rfl (k := j) (by simp [Entry.become]) <| unbound.not_bound <| by
    simp [Entry.become, own]
  simpa [Entry.become, TableView.bind, TableView.wait, TableView.setEntry] using after

/-- The end of a transaction that another command awaits, before its effect (R146). -/
theorem endOther (law : v.Lawful) {g : Seg} {h : Held} (waits : v.waitsFor = some (g, h))
    (other : ∀ k, h ≠ .disable k) : ((v.bind g none).wait none).Lawful :=
  (law.dismiss (law.not_closing_of_waits waits other)).unbind (g := g) fun h waits => by cases waits

/-- The end of a transaction that a REGIONS awaits (R37). -/
theorem endRegions (law : v.Lawful) {g : Seg} {k : Fin 16} {l : List Region}
    (waits : v.waitsFor = some (g, .regions k l)) :
    (((v.bind g none).setEntry k { v.entry k with regions := sortRegions l }).wait none).Lawful := by
  obtain ⟨j, -, rfl, active, few, valid⟩ := law.waiting g _ waits
  exact (law.endOther waits (by simp)).setPointerAndRegions (k := j) (v.entry j).pointer
    (by simp [active]) (regionsInOrder_sortRegions few valid)

end TableView.Lawful

/-- A command that waits for the ended transaction takes its effect, and the laws hold (R145, R146). -/
theorem State.completeWaiting_lawful {v : TableView} {u : State} {g : Seg} (law : v.Lawful)
    (ended : u.tableView = v.bind g none) : (u.completeWaiting g).tableView.Lawful := by
  have entry : u.entry = v.entry := congrArg TableView.entry ended
  have waitsFor : u.engine.state.waitsFor = v.waitsFor := congrArg TableView.waitsFor ended
  rcases State.completeWaiting_cases u g with ⟨h, waits, equal⟩ | ⟨free, equal⟩
  · rw [← EngineState.waitsFor_eq_some, waitsFor] at waits
    rw [equal, State.tableView_complete]
    cases h with
    | disable k =>
      simpa [State.applyHeld, ended, entry] using law.endDisable waits
    | regions k l =>
      simpa [State.applyHeld, State.setRegions, ended, entry] using law.endRegions waits
    | imagePut k offset bytes =>
      simpa [State.applyHeld, ended] using law.endOther waits (by simp)
    | segment c =>
      rw [State.applyHeld, State.tableView_onSeg_of_target rfl, ended]
      exact law.endOther waits (by simp)
  · rw [equal, ended]
    refine law.unbind fun h waits => free h ?_
    rw [← EngineState.waitsFor_eq_some, waitsFor, waits]

/-- The end of a transaction keeps the laws (R64). -/
theorem State.endTransaction_lawful {s : State} (law : s.tableView.Lawful) (g : Seg) (t : Txn)
    (cause : EndCause) {after : SegState} (free : after.target = none) :
    (s.endTransaction g t cause after).tableView.Lawful := by
  obtain ⟨u, ended, equal⟩ := State.endTransaction_eq_completeWaiting s g t cause after
  rw [equal]
  exact State.completeWaiting_lawful law (free ▸ ended)

/-- An end while nothing waits takes the binding out of the view, and nothing else. -/
theorem State.tableView_endTransaction_of_idle {s : State} (idle : s.tableView.waitsFor = none) (g : Seg)
    (t : Txn) (cause : EndCause) (after : SegState) :
    (s.endTransaction g t cause after).tableView = s.tableView.bind g after.target := by
  obtain ⟨u, ended, equal⟩ := State.endTransaction_eq_completeWaiting s g t cause after
  rw [equal, State.completeWaiting_of_idle (by rw [ended]; exact idle), ended]

/-! ## Abandonment (R63) -/

/-- The count and the event of an abandonment are not seen. -/
theorem State.tableView_countAndPost (s : State) (g : Seg) (f : Counters → Counters) (k : EventKind) :
    ((s.onSeg g (Segment.count f)).post k).tableView = s.tableView :=
  State.tableView_onSeg_of_target rfl

theorem State.abandon_lawful {s : State} (law : s.tableView.Lawful) (g : Seg) {after : SegState}
    (free : after.target = none) : (s.abandon g after).tableView.Lawful := by
  cases txn : (s.seg g).txn with
  | none => rwa [State.abandon_of_unbound after txn]
  | some t =>
    rw [State.abandon_of_bound after txn]
    exact State.endTransaction_lawful (by rwa [State.tableView_countAndPost]) g t .abandoned free

/-- An abandonment while nothing waits takes the binding out of the view, and nothing else. -/
theorem State.tableView_abandon_of_idle {s : State} (idle : s.tableView.waitsFor = none) (g : Seg)
    {after : SegState} (free : after.target = none) :
    (s.abandon g after).tableView = s.tableView.bind g none := by
  cases txn : (s.seg g).txn with
  | none =>
    rw [State.abandon_of_unbound after txn]
    exact (TableView.bind_of_eq (Segment.target_eq_none txn)).symm
  | some t =>
    have counted := State.tableView_countAndPost s g Counters.countAbandoned .transactionAbandoned
    rw [State.abandon_of_bound after txn,
      State.tableView_endTransaction_of_idle (by rw [counted]; exact idle), counted, free]

/-! ## START and STOP -/

theorem State.endByCondition_lawful {s : State} (law : s.tableView.Lawful) (g : Seg) (t : Txn)
    (cause : CommitCause) {after : SegState} (free : after.target = none) :
    (s.endByCondition g t cause after).tableView.Lawful := by
  unfold State.endByCondition
  split
  · exact State.endTransaction_lawful (by rwa [State.tableView_countAndPost]) g t _ free
  · exact State.endTransaction_lawful law g t _ free

/-- A segment with no transaction takes another state without one. -/
theorem State.unbind_unbound_lawful {s : State} (law : s.tableView.Lawful) {g : Seg} {after : SegState}
    (was : (s.seg g).state.target = none) (free : after.target = none) :
    (s.onSeg g (Segment.unbind after)).tableView.Lawful := by
  rwa [State.tableView_onSeg_of_target (free.trans was.symm)]

theorem State.recogniseStart_lawful {s : State} (law : s.tableView.Lawful) (g : Seg) :
    (s.recogniseStart g).tableView.Lawful := by
  unfold State.recogniseStart
  split
  case h_1 => exact law
  case h_2 state => exact State.unbind_unbound_lawful law (by rw [state]; rfl) rfl
  case h_3 state => exact State.unbind_unbound_lawful law (by rw [state]; rfl) rfl
  case h_4 state => exact State.unbind_unbound_lawful law (by rw [state]; rfl) rfl
  case h_9 => exact law
  all_goals exact State.endByCondition_lawful law g _ _ rfl

theorem State.recogniseStop_lawful {s : State} (law : s.tableView.Lawful) (g : Seg) :
    (s.recogniseStop g).tableView.Lawful := by
  unfold State.recogniseStop
  split
  case h_1 => exact law
  case h_2 => exact law
  case h_3 state => exact State.unbind_unbound_lawful law (by rw [state]; rfl) rfl
  case h_4 state => exact State.unbind_unbound_lawful law (by rw [state]; rfl) rfl
  case h_9 => exact law
  all_goals exact State.endByCondition_lawful law g _ _ rfl

theorem State.startCondition_lawful {s : State} (law : s.tableView.Lawful) (g : Seg) :
    (s.startCondition g).tableView.Lawful := by
  have moved : (s.setLines g { s.lines g with sda := false }).tableView.Lawful := by
    rwa [State.tableView_setLines]
  unfold State.startCondition
  split
  · dsimp only
    split
    · exact moved
    · exact State.recogniseStart_lawful moved g
  · exact law

theorem State.stopCondition_lawful {s : State} (law : s.tableView.Lawful) (g : Seg) :
    (s.stopCondition g).tableView.Lawful := by
  have moved : (s.setLines g { s.lines g with sda := true }).tableView.Lawful := by
    rwa [State.tableView_setLines]
  unfold State.stopCondition
  split
  · dsimp only
    split
    · exact moved
    · exact State.recogniseStop_lawful moved g
  · exact law

end Sys2Proof.Machine
end

section
/-! PROOFS. The commands of the buses and of the Time Base keep the laws of the table, of binding and of the
waiting command. -/

namespace Sys2Proof.Machine

open Sys2Proof.Safety

/-! ## Which state a byte's row belongs to (R46) -/

theorem ByteClock.receiverFallRow_cases (completion : EdgeRow) (c : ByteClock) :
    c.receiverFallRow completion = completion ∨ c.receiverFallRow completion = .sclEdge
      ∨ c.receiverFallRow completion = .never := by
  unfold ByteClock.receiverFallRow
  split
  · split <;> simp
  · simp
  · simp

theorem ByteClock.senderFallRow_ne_addressByte (c : ByteClock) : c.senderFallRow ≠ .addressByte := by
  unfold ByteClock.senderFallRow
  split <;> simp

/-- Only in ADDRESS does a falling edge complete an address byte (R52). -/
theorem Segment.state_of_fallRow_addressByte {x : Segment} (row : x.fallRow = .addressByte) :
    x.state = .address := by
  unfold Segment.fallRow at row
  split at row
  case h_3 state => exact state
  case h_5 => rcases x.clock.receiverFallRow_cases .subAddressByte with e | e | e <;> simp [e] at row
  case h_6 => rcases x.clock.receiverFallRow_cases .writeDataByte with e | e | e <;> simp [e] at row
  case h_7 => rcases x.clock.receiverFallRow_cases .writeDataByte with e | e | e <;> simp [e] at row
  case h_8 => exact absurd row x.clock.senderFallRow_ne_addressByte
  all_goals cases row

theorem State.fallRow_of_fallArises {s : State} {g : Seg} {row : EdgeRow}
    (arises : s.fallArises g row = true) : (s.seg g).fallRow = row := by
  simp only [State.fallArises, Bool.and_eq_true, beq_iff_eq] at arises
  exact arises.2

section Laws

variable {s : State} (law : s.tableView.Lawful) {g : Seg}
include law

/-! ## Bytes of a write transaction -/

theorem State.completeAddress_lawful (state : (s.seg g).state = .address) :
    (s.completeAddress g).tableView.Lawful := by
  have unbound : (s.seg g).state.target = none := by rw [state]; rfl
  have refused : ((s.lowerClock g).onSeg g (Segment.unbind .ignore)).tableView.Lawful :=
    State.unbind_unbound_lawful (by rwa [State.tableView_lowerClock])
      (by simpa [State.lowerClock] using unbound) rfl
  unfold State.completeAddress
  rcases State.lookup_cases s g (addressBits (s.seg g).shift) with
    ⟨k, hit, active, own, -⟩ | ⟨k, closing, -⟩ | ⟨nothing, -⟩
  · have target : (boundState (newTxn k (s.seg g).shift)).target = some k := by
      unfold boundState
      split <;> rfl
    simp only [hit, State.tableView_onSeg, State.tableView_lowerClock, Segment.startAbandonTimer,
      Segment.beginAck, Segment.enter, target]
    exact law.bindActive unbound active own
  · simpa only [closing] using refused
  · simpa only [nothing] using refused

variable {t : Txn} (txn : (s.seg g).txn = some t)
include txn

theorem State.completeSubAddress_lawful : (s.completeSubAddress g t).tableView.Lawful := by
  have pointed : ((s.lowerClock g).onEntry t.target (Entry.pointAt (s.seg g).shift)).tableView.Lawful :=
    State.onEntry_pointer_lawful (g := g) (by rwa [State.tableView_lowerClock])
      (by simpa [State.lowerClock] using txn) rfl
  unfold State.completeSubAddress
  rwa [State.tableView_onSeg_of_txn (t := t) (by simpa [State.onEntry, State.lowerClock] using txn) rfl]

omit law in
theorem State.tableView_acceptByte {u : Txn} (same : u.target = t.target) :
    (s.acceptByte g u).tableView = s.tableView :=
  State.tableView_onSeg_of_txn txn (congrArg some same)

omit law in
theorem State.tableView_refuseByte {u : Txn} (same : u.target = t.target) :
    (s.refuseByte g u).tableView = s.tableView :=
  State.tableView_onSeg_of_txn txn (congrArg some same)

omit law in
/-- A byte that is recorded, or refused by the pool, is not seen. -/
theorem State.tableView_recordByte (applied : Bool) : (s.recordByte g t applied).tableView = s.tableView := by
  have placed (u : State) (same : u.tableView = s.tableView) (seg : u.seg g = s.seg g) (b : Byte)
      {t' : Txn} (target : t'.target = t.target) :
      ((if applied then u.applyByte t.target b else u).acceptByte g t').tableView = s.tableView := by
    rw [← seg] at txn
    cases applied
    · exact (State.tableView_acceptByte txn target).trans same
    · have written : ((u.applyByte t.target b).seg g).txn = some t := by simpa [State.applyByte] using txn
      exact (State.tableView_acceptByte written target).trans same
  unfold State.recordByte
  dsimp only
  split
  · exact placed s rfl rfl _ rfl
  · exact placed { s with pool := s.pool.reserve g } rfl (by cases g <;> rfl) _ rfl
  · exact State.tableView_refuseByte txn rfl

omit law in
theorem State.tableView_completeData : (s.completeData g t).tableView = s.tableView := by
  have lowered : ((s.lowerClock g).seg g).txn = some t := by simpa [State.lowerClock] using txn
  rw [← State.tableView_lowerClock s g]
  rcases State.completeData_cases s g t with equal | equal | ⟨applied, equal⟩
  · rw [equal]; exact State.tableView_refuseByte lowered rfl
  · rw [equal]; exact State.tableView_acceptByte (s := (s.lowerClock g).applyByte t.target _) lowered rfl
  · rw [equal]; exact State.tableView_recordByte lowered applied

omit law in
theorem State.tableView_completeRefused : (s.completeRefused g t).tableView = s.tableView := by
  rw [State.completeRefused, State.tableView_refuseByte (by simpa [State.lowerClock] using txn) rfl,
    State.tableView_lowerClock]

/-! ## Acknowledge bits -/

/-- The pointer step of an acknowledge bit, with the clock raised (R33). -/
theorem State.raiseAndStep_lawful (sda : Bool) :
    ((s.raiseClock g sda).onEntry t.target Entry.step).tableView.Lawful :=
  State.onEntry_pointer_lawful (g := g) (by rwa [State.tableView_raiseClock])
    (by simpa [State.raiseClock] using txn) rfl

theorem State.takeWriteAck_lawful (sda : Bool) : (s.takeWriteAck g t sda).tableView.Lawful := by
  unfold State.takeWriteAck
  rw [State.tableView_onSeg_of_target rfl]
  exact State.raiseAndStep_lawful law txn sda

theorem State.takeMasterAck_lawful (sda : Bool) : (s.takeMasterAck g t sda).tableView.Lawful := by
  unfold State.takeMasterAck
  rw [State.tableView_onSeg_of_txn (t := t) (by simpa [State.onEntry, State.raiseClock] using txn)
    (by cases s.sdaLine g sda <;> rfl)]
  exact State.raiseAndStep_lawful law txn sda

/-! ## Bytes of a read transaction -/

omit law in
theorem State.tableView_needByte : (s.needByte g t).tableView = s.tableView := by
  rcases State.needByte_cases s g t with ⟨ahead, b, equal⟩ | ⟨b, equal⟩ | equal
  · rw [equal]; exact State.tableView_onSeg_of_txn txn rfl
  · rw [equal]; exact State.tableView_onSeg_of_txn txn rfl
  · rw [equal]; exact State.tableView_onSeg_of_txn txn rfl

omit law in
theorem State.tableView_takeByteNeed : (s.takeByteNeed g t).tableView = s.tableView := by
  unfold State.takeByteNeed
  have active : (((s.lowerClock g).onSeg g Segment.busActivity).seg g).txn = some t := by
    simpa [State.onSeg, State.lowerClock, Segment.busActivity, Segment.txn] using txn
  rw [State.tableView_needByte active, State.tableView_onSeg_of_target rfl, State.tableView_lowerClock]

omit law txn in
/-- A delivery leaves the transaction with its target (R119). -/
theorem State.tableView_deliver {r : Request} (state : (s.seg g).state = .rStretch t r)
    (bytes : List Byte) : (s.deliver g t r bytes).tableView = s.tableView :=
  State.tableView_onSeg_of_target (by rw [state]; rfl)

omit law txn in
theorem State.tableView_expireStretch {r : Request} (state : (s.seg g).state = .rStretch t r) :
    (s.expireStretch g t r).tableView = s.tableView :=
  State.tableView_onSeg_of_target (by rw [state]; rfl)

end Laws

/-! ## Edges and ticks -/

theorem State.tableView_clockEdge (s : State) (g : Seg) (edge : ClockEdge) :
    (s.clockEdge g edge).tableView = s.tableView := by
  cases edge with
  | rise sda =>
    have raised := State.tableView_raiseClock s g sda
    unfold State.clockEdge
    dsimp only
    split
    · split
      · exact raised
      · rfl
    · split
      · exact (State.tableView_onSeg_of_target (f := fun x => (x.takeRise _).busActivity)
          (congrArg SegState.target (Segment.takeRise_state ..))).trans raised
      · rfl
  | fall =>
    have lowered := State.tableView_lowerClock s g
    unfold State.clockEdge
    dsimp only
    split
    · split
      · exact lowered
      · rfl
    · split
      · exact (State.tableView_onSeg_of_target (f := fun x => x.takeFall.busActivity)
          (congrArg SegState.target (Segment.takeFall_state _))).trans lowered
      · rfl

theorem State.tickSegment_lawful {s : State} (law : s.tableView.Lawful) (g : Seg) :
    (s.tickSegment g).tableView.Lawful := by
  unfold State.tickSegment
  split
  · rename_i t r state
    split
    · rwa [State.tableView_expireStretch state]
    · rwa [State.tableView_onSeg_of_target (by rw [state]; rfl)]
  · split
    · exact law
    · split
      · exact State.abandon_lawful law g rfl
      · rwa [State.tableView_onSeg_of_target rfl]

end Sys2Proof.Machine
end

section
/-! PROOFS. The completion checks keep the laws of the table, of binding and of the waiting command. A check
is taken with the engine RUNNING, so that no command waits. -/

namespace Sys2Proof.Machine

open Sys2Proof.Safety

/-- An entry is bound exactly when the view has its segment bound to it (R9). -/
theorem State.entryBound_iff_target (s : State) (k : Fin 16) :
    s.entryBound k = true ↔ s.tableView.target (s.entry k).segment = some k := by
  rw [State.entryBound_iff]
  exact SegState.target_eq_some.symm

/-- With every entry FREE, no segment bound and nothing waiting the laws hold. -/
theorem TableView.lawful_of_free {v : TableView} (free : ∀ k, ∃ n, v.entry k = Entry.freeWith n)
    (unbound : ∀ g, v.target g = none) (idle : v.waitsFor = none) : v.Lawful where
  entryLaw k := by obtain ⟨n, equal⟩ := free k; rw [equal]; exact entryLaw_freeWith n
  apart j k _ := by obtain ⟨n, equal⟩ := free j; rw [equal]; exact entriesApart_freeWith n _
  bound g k target := by rw [unbound] at target; cases target
  waiting g h waits := by rw [idle] at waits; cases waits
  closing k closing := by obtain ⟨n, equal⟩ := free k; rw [equal] at closing; cases closing

/-- A completion check keeps the laws where it does so with no command waiting. -/
theorem State.atCheck_lawful {s : State} (law : s.tableView.Lawful) (code : Byte) {check : State → State}
    (keeps : s.tableView.waitsFor = none → (check s).tableView.Lawful) :
    (s.atCheck code check).tableView.Lawful := by
  rcases State.atCheck_cases s code check with ⟨-, running, -, taken⟩ | nothing
  · rw [taken]
    exact keeps (by simp [State.tableView, running, EngineState.waitsFor])
  · rwa [nothing]

section Checks

variable {s : State} (law : s.tableView.Lawful) (idle : s.tableView.waitsFor = none)
include law idle

/-- A completion of a check that has changed neither entries nor bindings. -/
theorem State.complete_lawful {u : State} (same : u.tableView = s.tableView) (r : ResultCode) :
    (u.complete r).tableView.Lawful := by
  rwa [State.tableView_complete, same, TableView.wait_of_eq idle]

/-! ## The table commands (2.4) -/

theorem State.checkDefine_lawful : s.checkDefine.tableView.Lawful := by
  unfold State.checkDefine
  split
  · exact State.complete_lawful law idle rfl _
  rename_i k _
  split
  · exact State.complete_lawful law idle rfl _
  rename_i free
  split
  · exact State.complete_lawful law idle rfl _
  rename_i c config
  obtain ⟨valid, rfl⟩ := (targetConfig_eq_some_iff _ _).1 config
  split
  · exact State.complete_lawful law idle rfl _
  rename_i untaken
  rw [ne_eq, not_not] at free
  have off : (s.entry k).onBus = false := by simp [Entry.onBus, free]
  rw [State.rangeTaken_iff] at untaken
  rw [State.tableView_complete, State.tableView_writeResults, State.tableView_setEntry]
  refine law.setEntry (entryLaw_definedEntry valid _) (by simp [definedEntry])
    (fun j _ => law.not_closing idle j) (fun j _ => ⟨fun _ used => ?_, fun bus => (by cases bus)⟩)
    fun g target => absurd target (law.not_bound_of_not_onBus off g)
  exact Bool.eq_false_iff.2 fun share => untaken ⟨j, used, share⟩

theorem State.checkEnable_lawful : s.checkEnable.tableView.Lawful := by
  unfold State.checkEnable
  split
  · exact State.complete_lawful law idle rfl _
  rename_i k _
  split
  · exact State.complete_lawful law idle rfl _
  rename_i defined
  split
  · exact State.complete_lawful law idle rfl _
  rename_i free
  rw [ne_eq, not_not] at defined
  have off : (s.entry k).onBus = false := by simp [Entry.onBus, defined]
  have used : (s.entry k).life ≠ .free := by simp [defined]
  rw [State.conflicts_iff] at free
  rw [State.tableView_complete, State.tableView_onEntry]
  refine law.setEntry ⟨fun life => (by cases life), fun _ => (law.entryLaw k).2 used⟩ (by simp)
    (fun j _ => law.not_closing idle j)
    (fun j ne => ⟨fun _ => (law.apart k j ne.symm).1 used, fun _ bus same => ?_⟩)
    fun g target => absurd target (law.not_bound_of_not_onBus off g)
  exact Bool.eq_false_iff.2 fun overlap => free ⟨j, bus, same.symm, overlap⟩

theorem State.disableGracefully_lawful {k : Fin 16} (used : (s.entry k).life ≠ .free) :
    (s.disableGracefully k).tableView.Lawful := by
  unfold State.disableGracefully
  split
  · rename_i bound
    rw [State.tableView_await, State.tableView_onEntry]
    exact law.close idle ((State.entryBound_iff_target s k).1 bound)
  · rename_i unbound
    rw [State.tableView_complete, State.tableView_onEntry]
    exact law.becomeDefined idle used
      (law.not_bound fun target => unbound ((State.entryBound_iff_target s k).2 target))

theorem State.disableByForce_lawful {k : Fin 16} (used : (s.entry k).life ≠ .free) :
    (s.disableByForce k).tableView.Lawful := by
  unfold State.disableByForce
  dsimp only
  rw [State.tableView_complete]
  split
  · have unbound := law.unbind (g := (s.entry k).segment) (by simp [idle])
    rw [State.tableView_abandon_of_idle (by simpa using idle) _ rfl, State.tableView_onEntry]
    exact unbound.becomeDefined idle used (unbound.not_bound (by simp [State.tableView]))
  · rename_i unbound
    rw [State.tableView_onEntry]
    exact law.becomeDefined idle used
      (law.not_bound fun target => unbound ((State.entryBound_iff_target s k).2 target))

theorem State.checkDisable_lawful : s.checkDisable.tableView.Lawful := by
  unfold State.checkDisable
  split
  · exact State.complete_lawful law idle rfl _
  split
  · exact State.complete_lawful law idle rfl _
  rename_i k _ active
  rw [ne_eq, not_not] at active
  have used : (s.entry k).life ≠ .free := by simp [active]
  split
  · exact State.complete_lawful law idle rfl _
  · exact State.disableGracefully_lawful law idle used
  · exact State.disableByForce_lawful law idle used

theorem State.checkRelease_lawful : s.checkRelease.tableView.Lawful := by
  unfold State.checkRelease
  split
  · exact State.complete_lawful law idle rfl _
  split
  · exact State.complete_lawful law idle rfl _
  rename_i k _ defined
  rw [ne_eq, not_not] at defined
  have off : (s.entry k).onBus = false := by simp [Entry.onBus, defined]
  rw [State.tableView_complete, State.tableView_onEntry]
  exact law.setEntry (entryLaw_freeWith _) (by simp [Entry.release, Entry.freeWith])
    (fun j _ => law.not_closing idle j) (fun j _ => entriesApart_freeWith _ _)
    fun g target => absurd target (law.not_bound_of_not_onBus off g)

theorem State.checkVtQuery_lawful : s.checkVtQuery.tableView.Lawful := by
  unfold State.checkVtQuery
  split
  · exact State.complete_lawful law idle rfl _
  split
  · exact State.complete_lawful law idle rfl .ok
  split
  · exact State.complete_lawful law idle rfl .ok
  · exact State.complete_lawful law idle rfl _

/-! ## The image commands (3.5 to 3.7) -/

theorem State.checkRegions_lawful : s.checkRegions.tableView.Lawful := by
  unfold State.checkRegions
  split
  · exact State.complete_lawful law idle rfl _
  rename_i k _
  split
  · exact State.complete_lawful law idle rfl _
  rename_i life
  split
  · exact State.complete_lawful law idle rfl _
  rename_i l list
  split
  · exact State.complete_lawful law idle rfl _
  rename_i valid
  rw [Bool.not_eq_false] at valid
  split
  · rename_i waits
    rw [State.tableView_await]
    exact law.await idle ((State.entryBound_iff_target s k).1 waits.2)
      ⟨rfl, waits.1, regionList_length list, valid⟩
  · have used : (s.entry k).life ≠ .free := fun free => life (by simp [free])
    rw [State.tableView_complete, State.setRegions, State.tableView_onEntry]
    have stored := law.setPointerAndRegions (s.entry k).pointer used
      (regionsInOrder_sortRegions (regionList_length list) valid)
    exact stored.dismiss (stored.not_closing idle)

/-- A bound entry is ACTIVE while no command waits (R9). -/
theorem State.active_of_target {g : Seg} {k : Fin 16} (target : s.tableView.target g = some k) :
    (s.entry k).life = .active :=
  ((Entry.onBus_iff _).1 (law.bound g k target).1).resolve_right (law.not_closing idle k)

theorem State.checkImagePut_lawful : s.checkImagePut.tableView.Lawful := by
  unfold State.checkImagePut
  dsimp only
  split
  · exact State.complete_lawful law idle rfl _
  rename_i k _
  split
  · exact State.complete_lawful law idle rfl _
  split
  · exact State.complete_lawful law idle rfl _
  split
  · rename_i inRange
    split
    · rename_i waits
      have target := (State.entryBound_iff_target s k).1 waits.2
      have few := putBytes_length_le s.engine.latched
      rw [State.tableView_await]
      exact law.await idle target
        ⟨rfl, State.active_of_target law idle target, (Nat.add_le_add_left few _).trans inRange.2.2⟩
    · exact State.complete_lawful law idle rfl _
  · exact State.complete_lawful law idle rfl _

theorem State.checkImageGet_lawful : s.checkImageGet.tableView.Lawful := by
  unfold State.checkImageGet
  dsimp only
  split
  · exact State.complete_lawful law idle rfl _
  split
  · exact State.complete_lawful law idle rfl _
  split
  · exact State.complete_lawful law idle rfl .ok
  · exact State.complete_lawful law idle rfl _

/-! ## The device commands -/

theorem State.checkFlush_lawful : s.checkFlush.tableView.Lawful := by
  unfold State.checkFlush
  split
  · exact State.complete_lawful law idle rfl _
  · exact State.complete_lawful law idle rfl .ok

theorem State.checkQueueConfig_lawful : s.checkQueueConfig.tableView.Lawful := by
  unfold State.checkQueueConfig
  dsimp only
  split
  · exact State.complete_lawful law idle rfl .ok
  · exact State.complete_lawful law idle rfl _

omit law idle in
/-- SEGMENT with power ON on an unbound segment leaves it unbound (R68). -/
theorem State.tableView_turnOn {g : Seg} (unbound : (s.seg g).bound = false) (c : SegConfig) :
    (s.onSeg g (Segment.turnOn c)).tableView = s.tableView := by
  have none : (s.seg g).txn = none := by simpa [Segment.bound] using unbound
  refine State.tableView_onSeg_of_target ?_
  unfold Segment.turnOn
  split
  · exact (Segment.target_eq_none none).symm
  · rfl

theorem State.checkSegment_lawful : s.checkSegment.tableView.Lawful := by
  unfold State.checkSegment
  split
  · exact State.complete_lawful law idle rfl _
  rename_i g on c values
  split
  · split
    · rename_i bound
      obtain ⟨t, txn⟩ := Option.isSome_iff_exists.1 bound
      have target := Segment.target_of_txn txn
      rw [State.tableView_await]
      exact law.await idle target ⟨segmentParams_inRange values, State.active_of_target law idle target⟩
    · rename_i unbound
      have same := State.tableView_turnOn (by simpa using unbound) c
      exact State.complete_lawful law idle same _
  · rw [State.tableView_complete, State.turnOff, State.tableView_onSeg,
      State.tableView_abandon_of_idle idle g rfl, TableView.bind_bind]
    exact (law.unbind (by simp [idle])).dismiss (law.not_closing idle)

theorem State.checkClearCounters_lawful : s.checkClearCounters.tableView.Lawful := by
  have cleared (u : State) (g : Seg) :
      (u.onSeg g (Segment.count fun _ => Counters.zero)).tableView = u.tableView :=
    State.tableView_onSeg_of_target rfl
  unfold State.checkClearCounters
  split
  · exact State.complete_lawful law idle rfl _
  · refine State.complete_lawful law idle ?_ _
    split <;> split <;> simp only [cleared]

end Checks

/-- REINIT leaves every entry FREE and no segment bound (R154). -/
theorem State.checkReinit_lawful (s : State) : s.checkReinit.tableView.Lawful :=
  TableView.lawful_of_free (fun _ => ⟨_, Vector.getElem_ofFn ..⟩) (fun g => by cases g <;> rfl) rfl

end Sys2Proof.Machine
end

section
/-! PROOFS. Host accesses keep the laws of the table, of binding and of the waiting command, and with them
every step does (O10). -/

namespace Sys2Proof.Machine

open Sys2Proof.Safety

/-! ## Host accesses (10.2 to 10.7) -/

theorem Engine.issue_waitsFor (code : Byte) (e : Engine) :
    (e.issue code).state.waitsFor = e.state.waitsFor := by
  cases state : e.state <;> simp [Engine.issue, state, EngineState.waitsFor]

theorem Engine.writeStatus_state (value : Byte) (e : Engine) : (e.writeStatus value).state = e.state := by
  unfold Engine.writeStatus
  split <;> rfl

theorem State.tableView_issue (s : State) (code : Byte) :
    { s with engine := s.engine.issue code }.tableView = s.tableView := by
  have same := Engine.issue_waitsFor code s.engine
  simp only [State.tableView, same]
  rfl

theorem State.tableView_writeStatus (s : State) (value : Byte) :
    { s with engine := s.engine.writeStatus value }.tableView = s.tableView := by
  have same := Engine.writeStatus_state value s.engine
  simp only [State.tableView, same]
  rfl

theorem State.tableView_popHead (s : State) : s.popHead.tableView = s.tableView := by
  unfold State.popHead
  split <;> rfl

theorem State.tableView_writeUpper (s : State) (n : Nat) (value : Byte) :
    (s.writeUpper n value).tableView = s.tableView := by
  unfold State.writeUpper
  split
  · rfl
  · split <;> rfl
  · rfl
  · rfl

theorem State.tableView_commitAnswer (s : State) : s.commitAnswer.tableView = s.tableView := by
  rcases State.commitAnswer_cases s with ⟨g, t, r, state, -, equal⟩ | equal
  · rw [equal]
    exact State.tableView_deliver state s.dru.staging
  · rw [equal]
    rfl

theorem State.tableView_writeAnswerControl (s : State) (value : Byte) :
    (s.writeAnswerControl value).tableView = s.tableView := by
  unfold State.writeAnswerControl
  split
  · exact State.tableView_commitAnswer s
  · split <;> rfl

theorem State.tableView_hostReadAccess (s : State) (location : Location) :
    (s.hostReadAccess location).tableView = s.tableView := by
  unfold State.hostReadAccess
  split
  · rfl
  · unfold State.readSideEffect
    split <;> rfl

section Laws

variable {s : State} (law : s.tableView.Lawful)
include law

/-- An ABORT makes the entry of a waiting DISABLE ACTIVE again, and the command no longer waits (R147). -/
theorem State.abortCommand_lawful : s.abortCommand.tableView.Lawful := by
  unfold State.abortCommand
  split
  · rename_i g h state
    have waits : s.tableView.waitsFor = some (g, h) := EngineState.waitsFor_eq_some.2 state
    rw [State.tableView_complete]
    cases h with
    | disable k =>
      rw [State.withdraw, State.tableView_onEntry]
      exact law.withdraw waits
    | regions k l => exact law.dismiss (law.not_closing_of_waits waits (by simp))
    | imagePut k offset bytes => exact law.dismiss (law.not_closing_of_waits waits (by simp))
    | segment c => exact law.dismiss (law.not_closing_of_waits waits (by simp))
  · exact law
  · exact law

theorem State.takeWrite_lawful (location : Location) (value : Byte) :
    (s.takeWrite location value).tableView.Lawful := by
  unfold State.takeWrite
  split
  case h_1 => rwa [State.tableView_issue]
  case h_2 => rwa [State.tableView_writeStatus]
  case h_12 => exact State.abortCommand_lawful law
  case h_15 => rwa [State.tableView_writeAnswerControl]
  case h_16 => rwa [State.tableView_popHead]
  case h_17 => rwa [State.tableView_writeUpper]
  all_goals exact law

theorem State.hostWrite_lawful (location : Location) (value : Byte) :
    (s.hostWrite location value).tableView.Lawful := by
  unfold State.hostWrite
  split
  · exact law
  · exact State.takeWrite_lawful (s := s.endRead) law location value

theorem State.hostWriteDisregarded_lawful : s.hostWriteDisregarded.tableView.Lawful := by
  unfold State.hostWriteDisregarded
  split
  · exact law
  · exact law

/-! ## Every command and every step -/

/-- Every command answers a state in which the laws hold. -/
theorem exec_lawful (c : Instr) : ∃ t, exec c s = .next t ∧ t.tableView.Lawful := by
  cases c with
  | start g => exact ⟨_, rfl, State.startCondition_lawful law g⟩
  | stop g => exact ⟨_, rfl, State.stopCondition_lawful law g⟩
  | addressByte g =>
    refine ⟨_, rfl, ?_⟩
    split
    · rename_i arises
      exact State.completeAddress_lawful law
        (Segment.state_of_fallRow_addressByte (State.fallRow_of_fallArises arises))
    · exact law
  | subAddressByte g =>
    refine ⟨_, rfl, ?_⟩
    split
    · split
      · exact State.completeSubAddress_lawful law (by assumption)
      · exact law
    · exact law
  | writeDataByte g =>
    refine ⟨_, rfl, ?_⟩
    split
    · split
      · rename_i t state
        rwa [State.tableView_completeData (by rw [Segment.txn, state]; rfl)]
      · rename_i t state
        rwa [State.tableView_completeRefused (by rw [Segment.txn, state]; rfl)]
      · exact law
    · exact law
  | writeAckBit g sda =>
    refine ⟨_, rfl, ?_⟩
    split
    · split
      · exact State.takeWriteAck_lawful law (by assumption) sda
      · exact law
    · exact law
  | byteNeed g =>
    refine ⟨_, rfl, ?_⟩
    split
    · split
      · rwa [State.tableView_takeByteNeed (by assumption)]
      · exact law
    · exact law
  | masterAckBit g sda =>
    refine ⟨_, rfl, ?_⟩
    split
    · split
      · exact State.takeMasterAck_lawful law (by assumption) sda
      · exact law
    · exact law
  | tick =>
    refine ⟨_, rfl, ?_⟩
    split
    · exact law
    · exact State.tickSegment_lawful (State.tickSegment_lawful law .A) .B
  | abandonTimerExpiry g =>
    refine ⟨_, rfl, ?_⟩
    split
    · split
      · exact State.abandon_lawful law g rfl
      · exact law
    · exact law
  | stretchExpiry g =>
    refine ⟨_, rfl, ?_⟩
    split
    · split
      · rwa [State.tableView_expireStretch (by assumption)]
      · exact law
    · exact law
  | define => exact ⟨_, rfl, State.atCheck_lawful law _ (State.checkDefine_lawful law)⟩
  | enable => exact ⟨_, rfl, State.atCheck_lawful law _ (State.checkEnable_lawful law)⟩
  | disable => exact ⟨_, rfl, State.atCheck_lawful law _ (State.checkDisable_lawful law)⟩
  | release => exact ⟨_, rfl, State.atCheck_lawful law _ (State.checkRelease_lawful law)⟩
  | vtQuery => exact ⟨_, rfl, State.atCheck_lawful law _ (State.checkVtQuery_lawful law)⟩
  | regions => exact ⟨_, rfl, State.atCheck_lawful law _ (State.checkRegions_lawful law)⟩
  | imagePut => exact ⟨_, rfl, State.atCheck_lawful law _ (State.checkImagePut_lawful law)⟩
  | imageGet => exact ⟨_, rfl, State.atCheck_lawful law _ (State.checkImageGet_lawful law)⟩
  | flush => exact ⟨_, rfl, State.atCheck_lawful law _ (State.checkFlush_lawful law)⟩
  | queueConfig => exact ⟨_, rfl, State.atCheck_lawful law _ (State.checkQueueConfig_lawful law)⟩
  | segment => exact ⟨_, rfl, State.atCheck_lawful law _ (State.checkSegment_lawful law)⟩
  | clearCounters => exact ⟨_, rfl, State.atCheck_lawful law _ (State.checkClearCounters_lawful law)⟩
  | sleep => exact ⟨_, rfl, State.atCheck_lawful law _ fun idle => State.complete_lawful law idle rfl .ok⟩
  | awake => exact ⟨_, rfl, State.atCheck_lawful law _ fun idle => State.complete_lawful law idle rfl .ok⟩
  | reinit => exact ⟨_, rfl, State.atCheck_lawful law _ fun _ => State.checkReinit_lawful s⟩
  | unknown =>
    refine ⟨_, rfl, ?_⟩
    split
    · exact law
    · exact State.atCheck_lawful law _ fun idle => State.complete_lawful law idle rfl .unknown
  | dataPortRead => exact ⟨_, rfl, by rwa [State.tableView_hostReadAccess]⟩
  | disregardedWrite location value => exact ⟨_, rfl, State.hostWriteDisregarded_lawful law⟩
  | resetAssert =>
    exact ⟨_, rfl, TableView.lawful_of_free (fun _ => ⟨0, Vector.getElem_replicate ..⟩)
      (fun g => by cases g <;> rfl) rfl⟩
  | resetRelease => exact ⟨_, rfl, law⟩
  | sclEdge g edge => exact ⟨_, rfl, by rwa [State.tableView_clockEdge]⟩
  | commandIssue | abort | clearCollision | parameterWrite | pageWrite | pendingClear | intEnableWrite
  | wakeEnableWrite | emptyPopClear | pop | dataIndexWrite | answerSeqWrite | answerDataWrite | commit
  | clear => exact ⟨_, rfl, State.hostWrite_lawful law _ _⟩

/-- Every step keeps the laws. -/
theorem step_lawful {t : State} (stepped : step s = .next t) : t.tableView.Lawful := by
  unfold step at stepped
  split at stepped
  · cases stepped
    exact law
  · rename_i c rest _
    obtain ⟨u, taken, lawful⟩ := exec_lawful (s := { s with pending := rest }) law c
    rw [taken] at stepped
    cases stepped
    exact lawful

end Laws

/-- Settles O10: the three laws are those of the view, which every step keeps. -/
theorem tableStaysLawful : Obligations.TableStaysLawful := by
  intro s t table bindings waiting stepped
  have law := (State.tableView_lawful_iff s).2 ⟨table, bindings, waiting⟩
  exact (State.tableView_lawful_iff t).1 (step_lawful law stepped)

end Sys2Proof.Machine
end

section
/-! PROOFS. The address byte (R1, R52): the lookup finds the one matching entry, and the segment binds to it
or passes to IGNORE (O27). -/

namespace Sys2Proof.Machine

open Sys2Proof.Safety

/-- Two entries of the bus on one segment that hold a common address are one entry (R4). -/
theorem entry_unique_of_tableLawful {s : State} (table : TableLawful s) {j k : Fin 16} {a : BusAddress}
    (busJ : (s.entry j).onBus = true) (busK : (s.entry k).onBus = true)
    (same : (s.entry j).segment = (s.entry k).segment)
    (inJ : InMatchSet (s.entry j).address (s.entry j).mask a)
    (inK : InMatchSet (s.entry k).address (s.entry k).mask a) : j = k := by
  by_contra ne
  have apart := (table.2 j k ne).2 busJ busK same
  rw [(matchSetsOverlap_iff_shared ..).2 ⟨a, inJ, inK⟩] at apart
  cases apart

/-- The lookup finds the ACTIVE entry that holds the address (R1). -/
theorem State.lookup_eq_hit {s : State} (table : TableLawful s) {g : Seg} {k : Fin 16} {a : BusAddress}
    (active : (s.entry k).life = .active) (own : (s.entry k).segment = g)
    (inSet : InMatchSet (s.entry k).address (s.entry k).mask a) : s.lookup g a = .hit k := by
  have bus := (Entry.onBus_iff (s.entry k)).2 (.inl active)
  rcases State.lookup_cases s g a with
    ⟨j, hit, life, segment, held⟩ | ⟨j, -, life, segment, held⟩ | ⟨-, nothing⟩
  · rw [Entry.matchesAddress_iff] at held
    rw [hit, entry_unique_of_tableLawful table ((Entry.onBus_iff _).2 (.inl life)) bus
      (segment.trans own.symm) held inSet]
  · rw [Entry.matchesAddress_iff] at held
    obtain rfl := entry_unique_of_tableLawful table ((Entry.onBus_iff _).2 (.inr life)) bus
      (segment.trans own.symm) held inSet
    rw [life] at active
    cases active
  · have held := nothing k bus own
    rw [(Entry.matchesAddress_iff ..).2 inSet] at held
    cases held

/-- With no ACTIVE entry for the address the segment passes to IGNORE (R52). -/
theorem State.completeAddress_of_no_match {s : State} {g : Seg}
    (none : ∀ k, ¬ ((s.entry k).life = .active ∧ (s.entry k).segment = g
      ∧ InMatchSet (s.entry k).address (s.entry k).mask (addressBits (s.seg g).shift))) :
    s.completeAddress g = (s.lowerClock g).onSeg g (Segment.unbind .ignore) := by
  unfold State.completeAddress
  rcases State.lookup_cases s g (addressBits (s.seg g).shift) with
    ⟨k, -, life, segment, held⟩ | ⟨k, closing, -⟩ | ⟨nothing, -⟩
  · exact absurd ⟨life, segment, (Entry.matchesAddress_iff ..).1 held⟩ (none k)
  · simp only [closing]
  · simp only [nothing]

theorem addressBits_eq (b : Byte) : addressBits b = (b >>> 1).setWidth 7 := by
  ext n
  simp [addressBits]

theorem boundState_newTxn (k : Fin 16) (b : Byte) :
    boundState (newTxn k b) = if b.getLsbD 0 then .rData { newTxn k b with direction := .read }
      else .wSubaddr { newTxn k b with direction := .write } := by
  unfold boundState newTxn directionBit
  cases b.getLsbD 0 <;> rfl

/-- The falling edge after the eighth bit in ADDRESS is an address byte's completion. -/
theorem State.addressByte_arises {s : State} {g : Seg} (sampled : ByteSampled s g)
    (state : (s.seg g).state = .address) : s.fallArises g .addressByte = true := by
  obtain ⟨awake, high, eighth⟩ := sampled
  simp [State.fallArises, State.canFall, Segment.fallRow, ByteClock.receiverFallRow, awake, high, eighth,
    state]

/-- Settles O27. -/
theorem addressByteBindsOrIsRefused : Obligations.AddressByteBindsOrIsRefused := by
  intro s g sampled state sdaLow sclLow timer table x a isMatch context
  have taken : exec (.addressByte g) s = .next (s.completeAddress g) :=
    congrArg Host.Outcome.next (if_pos (State.addressByte_arises sampled state))
  have lowered : (s.lowerClock g).seg g = s.seg g := State.setLines_seg ..
  have address : addressBits (s.seg g).shift = a := addressBits_eq _
  refine ⟨fun k found => ?_, fun none => ?_⟩
  · obtain ⟨active, own, inSet⟩ := found
    have hit := State.lookup_eq_hit table active own inSet
    have entered : boundState (newTxn k (s.seg g).shift) =
        if x.shift.getLsbD 0 then .rData (context k .read) else .wSubaddr (context k .write) := by
      rw [boundState_newTxn]
      simp only [newTxn, address]
      rfl
    rw [taken, State.completeAddress, address]
    simp only [hit, State.onSeg, lowered, Segment.enter, entered]
    rfl
  · have unbound : (s.seg g).unbind .ignore = { x with state := .ignore, clock := .bits 0 } := by
      simp [Segment.unbind, x, sdaLow, sclLow, timer]
    rw [taken, State.completeAddress_of_no_match (by rw [address]; exact none), State.onSeg, lowered,
      unbound]
    rfl

end Sys2Proof.Machine
end

section
/-! PROOFS. The completion checks of DEFINE, ENABLE, RELEASE and DISABLE (2.4.1 to 2.4.4): one equation for
each outcome, and the statements O44, O45 and O46 assembled from them. -/

namespace Sys2Proof.Machine

open Sys2Proof.Safety

/-- The completion check of the code a RUNNING engine holds is taken (R139). -/
theorem State.atCheck_eq_of_running {s : State} {code : Byte} (h : Running s code) (check : State → State) :
    s.atCheck code check = check s := by
  obtain ⟨awake, running, held⟩ := h
  exact State.atCheck_of_running check awake running held

/-! ## DEFINE (R11, R12) -/

section Define

variable {s : State} {k : Fin 16}

theorem State.checkDefine_badIndex (large : 16 ≤ s.engine.latched[0].toNat) :
    s.checkDefine = s.complete .badIndex := by
  rw [State.checkDefine, indexOf_eq_none large]

variable (index : s.engine.latched[0].toNat = k.val)
include index

theorem State.checkDefine_badState (used : (s.entry k).life ≠ .free) :
    s.checkDefine = s.complete .badState := by
  simp only [State.checkDefine, indexOf_eq_some index, if_pos used]

variable (free : (s.entry k).life = .free)
include free

theorem State.checkDefine_badParam (invalid : ¬ ValidConfig s.engine.latched) :
    s.checkDefine = s.complete .badParam := by
  simp only [State.checkDefine, indexOf_eq_some index, free, ne_eq, not_true_eq_false, if_false,
    targetConfig_of_not_valid invalid]

variable (valid : ValidConfig s.engine.latched)
include valid

theorem State.checkDefine_overlap
    (taken : s.rangeTaken (requestedConfig s.engine.latched).base (requestedConfig s.engine.latched).length
      = true) : s.checkDefine = s.complete .overlap := by
  simp only [State.checkDefine, indexOf_eq_some index, free, ne_eq, not_true_eq_false, if_false,
    targetConfig_of_valid valid, taken, if_true]

theorem State.checkDefine_ok
    (untaken : s.rangeTaken (requestedConfig s.engine.latched).base (requestedConfig s.engine.latched).length
      = false) : s.checkDefine =
      ((s.setEntry k (definedEntry (requestedConfig s.engine.latched)
        ((s.entry k).generation + 1))).writeResults 11 [(s.entry k).generation + 1]).complete .ok := by
  simp only [State.checkDefine, indexOf_eq_some index, free, ne_eq, not_true_eq_false, if_false,
    targetConfig_of_valid valid, untaken, Bool.false_eq_true]

end Define

/-- Settles O44. -/
theorem defineChecksThenAllocates : Obligations.DefineChecksThenAllocates := by
  intro s running p address mask base length valid shared
  have taken : exec .define s = .next s.checkDefine :=
    congrArg Host.Outcome.next (State.atCheck_eq_of_running running State.checkDefine)
  rw [taken]
  refine ⟨fun large => ?_, fun k index => ⟨fun used => ?_, fun free => ⟨fun invalid => ?_, ?_⟩⟩⟩
  · rw [State.checkDefine_badIndex large]
  · rw [State.checkDefine_badState index used]
  · rw [State.checkDefine_badParam index free invalid]
  intro valid nonempty
  have test := State.rangeTaken_iff_shared (s := s) (base := base) (length := length) valid.2.2.2.1 nonempty
  refine ⟨fun overlap => ?_, fun apart => ?_⟩
  · rw [State.checkDefine_overlap index free valid (test.2 overlap)]
  · rw [State.checkDefine_ok index free valid (Bool.eq_false_iff.2 fun taken => apart (test.1 taken))]
    rfl

/-! ## ENABLE (R13) -/

section Enable

variable {s : State} {k : Fin 16}

theorem State.checkEnable_badIndex (large : 16 ≤ s.engine.latched[0].toNat) :
    s.checkEnable = s.complete .badIndex := by
  rw [State.checkEnable, indexOf_eq_none large]

variable (index : s.engine.latched[0].toNat = k.val)
include index

theorem State.checkEnable_badState (other : (s.entry k).life ≠ .defined) :
    s.checkEnable = s.complete .badState := by
  simp only [State.checkEnable, indexOf_eq_some index, if_pos other]

variable (defined : (s.entry k).life = .defined)
include defined

theorem State.checkEnable_conflict (conflict : s.conflicts k = true) :
    s.checkEnable = s.complete .conflict := by
  simp only [State.checkEnable, indexOf_eq_some index, defined, ne_eq, not_true_eq_false, if_false, conflict,
    if_true]

theorem State.checkEnable_ok (free : s.conflicts k = false) : s.checkEnable =
    (s.setEntry k { s.entry k with pointer := 0, life := .active }).complete .ok := by
  simp only [State.checkEnable, indexOf_eq_some index, defined, ne_eq, not_true_eq_false, if_false, free,
    Bool.false_eq_true, State.onEntry]

end Enable

/-! ## RELEASE (R20) -/

section Release

variable {s : State} {k : Fin 16}

theorem State.checkRelease_badIndex (large : 16 ≤ s.engine.latched[0].toNat) :
    s.checkRelease = s.complete .badIndex := by
  rw [State.checkRelease, indexOf_eq_none large]

variable (index : s.engine.latched[0].toNat = k.val)
include index

theorem State.checkRelease_badState (other : (s.entry k).life ≠ .defined) :
    s.checkRelease = s.complete .badState := by
  simp only [State.checkRelease, indexOf_eq_some index, if_pos other]

theorem State.checkRelease_ok (defined : (s.entry k).life = .defined) : s.checkRelease =
    (s.setEntry k (Entry.freeWith (s.entry k).generation)).complete .ok := by
  simp only [State.checkRelease, indexOf_eq_some index, defined, ne_eq, not_true_eq_false, if_false,
    State.onEntry, Entry.release]

end Release

/-- Settles O45. -/
theorem enableActivatesAndReleaseFrees : Obligations.EnableActivatesAndReleaseFrees := by
  intro s meets
  refine ⟨fun running => ?_, fun running => ?_⟩
  · have taken : exec .enable s = .next s.checkEnable :=
      congrArg Host.Outcome.next (State.atCheck_eq_of_running running State.checkEnable)
    rw [taken]
    refine ⟨fun large => ?_, fun k index => ⟨fun other => ?_, fun defined =>
      ⟨fun conflict => ?_, fun free => ?_⟩⟩⟩
    · rw [State.checkEnable_badIndex large]
    · rw [State.checkEnable_badState index other]
    · rw [State.checkEnable_conflict index defined ((State.conflicts_iff_shared s k).2 conflict)]
    · have none : s.conflicts k = false :=
        Bool.eq_false_iff.2 fun conflict => free ((State.conflicts_iff_shared s k).1 conflict)
      rw [State.checkEnable_ok index defined none]
  · have taken : exec .release s = .next s.checkRelease :=
      congrArg Host.Outcome.next (State.atCheck_eq_of_running running State.checkRelease)
    rw [taken]
    refine ⟨fun large => ?_, fun k index => ⟨fun other => ?_, fun defined => ?_⟩⟩
    · rw [State.checkRelease_badIndex large]
    · rw [State.checkRelease_badState index other]
    · rw [State.checkRelease_ok index defined]

/-! ## DISABLE (R14, R15, R18) -/

section Disable

variable {s : State} {k : Fin 16}

theorem State.checkDisable_badIndex (large : 16 ≤ s.engine.latched[0].toNat) :
    s.checkDisable = s.complete .badIndex := by
  rw [State.checkDisable, indexOf_eq_none large]

variable (index : s.engine.latched[0].toNat = k.val)
include index

theorem State.checkDisable_badState (other : (s.entry k).life ≠ .active) :
    s.checkDisable = s.complete .badState := by
  simp only [State.checkDisable, indexOf_eq_some index, if_pos other]

variable (active : (s.entry k).life = .active)
include active

theorem State.checkDisable_badParam (large : 2 ≤ s.engine.latched[1].toNat) :
    s.checkDisable = s.complete .badParam := by
  have none : disableModeOfCode s.engine.latched[1] = none := by
    rw [disableModeOfCode_eq, if_neg (by omega)]
  simp only [State.checkDisable, indexOf_eq_some index, active, ne_eq, not_true_eq_false, if_false, none]

theorem State.checkDisable_graceful (mode : s.engine.latched[1] = 0) :
    s.checkDisable = s.disableGracefully k := by
  simp only [State.checkDisable, indexOf_eq_some index, active, ne_eq, not_true_eq_false, if_false, mode]
  rfl

theorem State.checkDisable_forced (mode : s.engine.latched[1] = 1) :
    s.checkDisable = s.disableByForce k := by
  simp only [State.checkDisable, indexOf_eq_some index, active, ne_eq, not_true_eq_false, if_false, mode]
  rfl

/-- In both modes an unbound entry becomes DEFINED at once (R15, R18). -/
theorem State.checkDisable_unbound (mode : s.engine.latched[1].toNat ≤ 1)
    (unbound : s.entryBound k = false) :
    s.checkDisable = (s.onEntry k (Entry.become .defined)).complete .ok := by
  have modes : s.engine.latched[1] = 0 ∨ s.engine.latched[1] = 1 := by bv_omega
  rcases modes with graceful | forced
  · rw [State.checkDisable_graceful index active graceful, State.disableGracefully, unbound]
    rfl
  · rw [State.checkDisable_forced index active forced, State.disableByForce, unbound]
    rfl

end Disable

/-- Settles O46. -/
theorem disableIsGracefulOrForced : Obligations.DisableIsGracefulOrForced := by
  intro s running p become boundOn
  have taken : exec .disable s = .next s.checkDisable :=
    congrArg Host.Outcome.next (State.atCheck_eq_of_running running State.checkDisable)
  rw [taken]
  refine ⟨fun large => ?_, fun k index => ⟨fun other => ?_, fun active =>
    ⟨fun large => ?_, fun mode unbound => ?_, fun graceful bound => ?_, fun forced t bound => ?_⟩⟩⟩
  · rw [State.checkDisable_badIndex large]
  · rw [State.checkDisable_badState index other]
  · rw [State.checkDisable_badParam index active large]
  · have none : s.entryBound k = false :=
      Bool.eq_false_iff.2 fun bound => unbound ((State.entryBound_iff s k).1 bound)
    rw [State.checkDisable_unbound index active mode none]
    rfl
  · rw [State.checkDisable_graceful index active graceful, State.disableGracefully,
      (State.entryBound_iff s k).2 bound]
    rfl
  · rw [State.checkDisable_forced index active forced, State.disableByForce,
      (State.entryBound_iff s k).2 ⟨t, bound⟩]
    dsimp only
    rw [if_pos rfl, State.abandon_of_bound .idle (by simpa [State.onEntry] using bound.1), State.onSeg,
      State.onEntry, State.setEntry_seg]
    rfl

end Sys2Proof.Machine
end

section
/-! PROOFS. VT_QUERY (2.4.5): both snapshots byte by byte (O47). -/

namespace Sys2Proof.Machine

open Sys2Proof.Safety

/-! ## The outcomes of the check (R21) -/

section VtQuery

variable {s : State} {k : Fin 16}

theorem State.checkVtQuery_badIndex (large : 16 ≤ s.engine.latched[0].toNat) :
    s.checkVtQuery = s.complete .badIndex := by
  rw [State.checkVtQuery, indexOf_eq_none large]

variable (index : s.engine.latched[0].toNat = k.val)
include index

theorem State.checkVtQuery_badParam (large : 2 ≤ s.engine.latched[1].toNat) :
    s.checkVtQuery = s.complete .badParam := by
  have zero : s.engine.latched[1] ≠ 0x00 := by bv_omega
  have one : s.engine.latched[1] ≠ 0x01 := by bv_omega
  simp only [State.checkVtQuery, indexOf_eq_some index, if_neg zero, if_neg one]

theorem State.checkVtQuery_part0 (part : s.engine.latched[1] = 0) :
    s.checkVtQuery = (s.writeResults 0 (s.snapshot k)).complete .ok := by
  simp only [State.checkVtQuery, indexOf_eq_some index, if_pos part]

theorem State.checkVtQuery_part1 (part : s.engine.latched[1] = 1) :
    s.checkVtQuery = (s.writeResults 0 (s.entry k).regionSnapshot).complete .ok := by
  have zero : s.engine.latched[1] ≠ 0x00 := by rw [part]; decide
  simp only [State.checkVtQuery, indexOf_eq_some index, if_neg zero, if_pos part]

end VtQuery

/-! ## Part 0 -/

/-- The low byte of a number (8.8). -/
theorem ofNat_mod_256 (n : Nat) : BitVec.ofNat 8 (n % 256) = BitVec.ofNat 8 n :=
  BitVec.eq_of_toNat_eq (by simp)

/-- The two flags of part 0 stand at different bits, so that their sum is their union. -/
theorem Entry.flagsByte_eq_or (e : Entry) : e.flagsByte =
    (match e.wrap with | .wrap => 0 | .run => 1) ||| (match e.sleep with | .fill => 0 | .wait => 2) := by
  unfold Entry.flagsByte
  cases e.wrap <;> cases e.sleep <;> rfl

/-- A byte that is 1 exactly when a proposition holds and 0 exactly when it does not is its bit. -/
theorem bitAt_zero_eq {b : Byte} {x : Bool} {bound : Prop} (test : x = true ↔ bound) (one : b = 1 ↔ bound)
    (zero : b = 0 ↔ ¬ bound) : bitAt 0 x = b := by
  cases x with
  | true => rw [one.2 (test.1 rfl)]; rfl
  | false => rw [zero.2 fun h => by cases test.2 h]; rfl

/-! ## Part 1 -/

/-- The bytes of a region list: three for each region. -/
theorem length_flatMap_bytes (l : List Region) : (l.flatMap Region.bytes).length = 3 * l.length := by
  induction l with
  | nil => rfl
  | cons r l ih => rw [List.flatMap_cons, List.length_append, ih]; simp [Region.bytes]; omega

/-- The three bytes of region `j` stand from `3 * j` on. -/
theorem getElem?_flatMap_bytes {l : List Region} {j : Nat} {r : Region} (h : l[j]? = some r) {i : Nat}
    (small : i < 3) : (l.flatMap Region.bytes)[3 * j + i]? = r.bytes[i]? := by
  induction l generalizing j with
  | nil => cases h
  | cons q l ih =>
    rw [List.flatMap_cons]
    cases j with
    | zero =>
      cases h
      rw [List.getElem?_append_left (by simp [Region.bytes]; omega), Nat.mul_zero, Nat.zero_add]
    | succ j =>
      rw [List.getElem?_append_right (by simp [Region.bytes]; omega), ← ih h]
      congr 1
      simp [Region.bytes]
      omega

theorem Entry.regionSnapshot_length (e : Entry) : e.regionSnapshot.length = 13 := by
  simp [Entry.regionSnapshot]

/-- Region `j` in part 1: its bytes follow the count and those of the regions before it. -/
theorem Entry.regionSnapshot_region {e : Entry} (few : e.regions.length ≤ 4) {j : Nat} {r : Region}
    (h : e.regions[j]? = some r) {i : Nat} (small : i < 3) :
    e.regionSnapshot[3 * j + i + 1]? = r.bytes[i]? := by
  have below : j < e.regions.length := (List.getElem?_eq_some_iff.1 h).1
  have inside : 3 * j + i < (e.regions.flatMap Region.bytes).length := by
    rw [length_flatMap_bytes]; omega
  rw [Entry.regionSnapshot, List.getElem?_cons_succ, List.getElem?_take_of_lt (by omega),
    List.getElem?_append_left inside, getElem?_flatMap_bytes h small]

/-- Behind its regions part 1 is `$00`. -/
theorem Entry.regionSnapshot_rest {e : Entry} {i : Nat} (behind : 3 * e.regions.length + 1 ≤ i)
    (inside : i < 13) : e.regionSnapshot[i]? = some 0 := by
  obtain ⟨n, rfl⟩ : ∃ n, i = n + 1 := ⟨i - 1, by omega⟩
  rw [Entry.regionSnapshot, List.getElem?_cons_succ, List.getElem?_take_of_lt (by omega),
    List.getElem?_append_right (by rw [length_flatMap_bytes]; omega), List.getElem?_replicate,
    if_pos (by omega)]

/-- Settles O47. -/
theorem queryReturnsASnapshot : Obligations.QueryReturnsASnapshot := by
  intro s running p
  have taken : exec .vtQuery s = .next s.checkVtQuery :=
    congrArg Host.Outcome.next (State.atCheck_eq_of_running running State.checkVtQuery)
  simp only [taken]
  refine ⟨fun large => ?_, fun k index => ⟨fun large => ?_, fun part free => ?_,
    fun part used b one zero => ?_, fun part few => ?_⟩⟩
  · rw [State.checkVtQuery_badIndex large]
  · rw [State.checkVtQuery_badParam index large]
  · rw [State.checkVtQuery_part0 index part, State.snapshot, if_pos free]
  · have bound := bitAt_zero_eq (State.entryBound_iff s k) one zero
    rw [State.checkVtQuery_part0 index part, State.snapshot, if_neg used, bound, ofNat_mod_256,
      ofNat_mod_256, Entry.flagsByte_eq_or]
    rfl
  · refine ⟨(s.entry k).regionSnapshot, Entry.regionSnapshot_length _, ?_, rfl, fun j r found => ?_,
      fun i => Entry.regionSnapshot_rest⟩
    · rw [State.checkVtQuery_part1 index part]
    · have byte (i : Nat) (small : i < 3) := Entry.regionSnapshot_region few found small
      rw [ofNat_mod_256]
      exact ⟨byte 0 (by decide), byte 1 (by decide), byte 2 (by decide)⟩

end Sys2Proof.Machine
end

section
/-! PROOFS. Image memory over consecutive bytes (R25), the classification of a sub-address (R27) and the step
of a pointer (R33). -/

namespace Sys2Proof.Machine

open Sys2Proof.Safety

/-! ## Image memory (R25) -/

/-- A read after writes of consecutive bytes inside image memory. -/
theorem Memory.read_writeAll {bytes : List Byte} : ∀ {m : List Host.Cell} {o : Nat}, Memory.wf m = true →
    o + bytes.length ≤ Config.imageBytes → ∀ a, Memory.read (Memory.writeAll m o bytes) a =
      if o ≤ a ∧ a < o + bytes.length then bytes.getD (a - o) 0 else Memory.read m a := by
  induction bytes with
  | nil =>
    intro m o _ _ a
    rw [if_neg (by simp), Memory.writeAll]
  | cons v rest ih =>
    intro m o canonical inside a
    rw [List.length_cons] at inside ⊢
    have first : o < Config.imageBytes := by omega
    rw [Memory.writeAll, ih (Memory.wf_write o v canonical) (by omega), Memory.read_write v a canonical first]
    by_cases after : o + 1 ≤ a
    · obtain ⟨n, rfl⟩ : ∃ n, a = o + 1 + n := ⟨a - (o + 1), by omega⟩
      have shifted : o + 1 + n - o = n + 1 := by omega
      simp only [shifted, Nat.add_sub_cancel_left, List.getD_cons_succ]
      rw [if_neg (show ¬ o + 1 + n = o by omega)]
      exact if_congr (by omega) rfl rfl
    · rw [if_neg (by omega)]
      by_cases here : a = o
      · rw [if_pos here, if_pos (by omega), here, Nat.sub_self, List.getD_cons_zero]
      · rw [if_neg here, if_neg (by omega)]

@[simp] theorem Memory.readAll_length (m : List Host.Cell) (a n : Nat) :
    (Memory.readAll m a n).length = n := by
  induction n generalizing a with
  | zero => rfl
  | succ n ih => rw [Memory.readAll, List.length_cons, ih]

/-- Consecutive bytes are read in order. -/
theorem Memory.getElem?_readAll (m : List Host.Cell) {i n : Nat} (a : Nat) (below : i < n) :
    (Memory.readAll m a n)[i]? = some (Memory.read m (a + i)) := by
  induction n generalizing a i with
  | zero => omega
  | succ n ih =>
    rw [Memory.readAll]
    cases i with
    | zero => rfl
    | succ i => rw [List.getElem?_cons_succ, ih (a + 1) (by omega), Nat.add_right_comm, Nat.add_assoc]

/-- Settles O20. -/
theorem writtenBytesAreReadBack : Obligations.WrittenBytesAreReadBack :=
  fun _ _ _ canonical inside => Memory.read_writeAll canonical inside

/-! ## Regions and classification (3.2) -/

theorem Region.covers_iff (r : Region) (p : Byte) : r.covers p = true ↔ InRegion r p.toNat := by
  simp [Region.covers, InRegion]

/-- Regions that share a sub-address meet. -/
theorem Region.meets_of_inRegion {r q : Region} {x : Nat} (inFirst : InRegion r x) (inSecond : InRegion q x) :
    r.meets q = true := by
  unfold InRegion at inFirst inSecond
  simp only [Region.meets, Bool.and_eq_true, decide_eq_true_eq]
  omega

/-- In a list of disjoint regions one region at most covers a sub-address (R26). -/
theorem region_unique_of_disjoint {l : List Region} (apart : l.Pairwise fun r q => r.meets q = false)
    {r q : Region} (memR : r ∈ l) (memQ : q ∈ l) {x : Nat} (inR : InRegion r x) (inQ : InRegion q x) :
    r = q := by
  by_contra ne
  have symmetric : Std.Symm fun r q : Region => r.meets q = false :=
    ⟨fun r q h => (Region.meets_comm q r).trans h⟩
  have meets := Region.meets_of_inRegion inR inQ
  rw [apart.forall memR memQ ne] at meets
  cases meets

/-- What the answers of a classification say (R27). -/
theorem Entry.classify_cases (e : Entry) (p : Byte) :
    (e.classify p = .outOfImage ∧ e.length ≤ p.toNat)
    ∨ (∃ r ∈ e.regions, e.classify p = .inRegion r.cls ∧ p.toNat < e.length ∧ InRegion r p.toNat)
    ∨ (e.classify p = .unmapped ∧ p.toNat < e.length ∧ ∀ r ∈ e.regions, ¬ InRegion r p.toNat) := by
  unfold Entry.classify
  split
  · exact .inl ⟨rfl, by assumption⟩
  · rename_i inside
    rw [Nat.not_le] at inside
    split
    · rename_i r found
      have covered := List.find?_some found
      exact .inr (.inl ⟨r, List.mem_of_find?_eq_some found, rfl, inside, (r.covers_iff p).1 covered⟩)
    · rename_i nothing
      rw [List.find?_eq_none] at nothing
      exact .inr (.inr ⟨rfl, inside, fun r mem covered => nothing r mem ((r.covers_iff p).2 covered)⟩)

/-- A sub-address of a region lies in the image. -/
theorem Entry.lt_length_of_classify {e : Entry} {p : Byte} {c : RegionClass}
    (h : e.classify p = .inRegion c) : p.toNat < e.length := by
  rcases e.classify_cases p with ⟨other, -⟩ | ⟨r, -, -, inside, -⟩ | ⟨other, -⟩
  · rw [other] at h; cases h
  · exact inside
  · rw [other] at h; cases h

/-- Settles O18: the three answers exclude each other, and disjointness makes the covering region unique. -/
theorem classificationFollowsTheRegionList : Obligations.ClassificationFollowsTheRegionList := by
  intro e p apart
  rcases e.classify_cases p with ⟨answer, beyond⟩ | ⟨r, mem, answer, inside, covered⟩ | ⟨answer, inside, uncovered⟩
  · have outside : ¬ p.toNat < e.length := by omega
    simp [answer, beyond, outside]
  · refine ⟨by simp [answer, inside], fun c => ?_, ?_⟩
    · rw [answer]
      constructor
      · intro same
        cases same
        exact ⟨inside, r, mem, covered, rfl⟩
      · rintro ⟨-, q, memQ, coveredQ, rfl⟩
        rw [region_unique_of_disjoint apart mem memQ covered coveredQ]
    · simp only [answer, reduceCtorEq, false_iff]
      exact fun h => h.2 r mem covered
  · refine ⟨by simp [answer, inside], fun c => ?_, by simpa [answer, inside] using uncovered⟩
    simp only [answer, reduceCtorEq, false_iff]
    rintro ⟨-, r, mem, covered, -⟩
    exact uncovered r mem covered

/-! ## The pointer (R33) -/

/-- The step of a pointer as a number: back to 0 at the end of the image under WRAP, and otherwise one up,
with 255 followed by 0. -/
theorem Entry.nextPointer_toNat (e : Entry) : e.nextPointer.toNat =
    if e.wrap = .wrap ∧ e.pointer.toNat + 1 = e.length then 0 else (e.pointer.toNat + 1) % 256 := by
  have up : (e.pointer + 1).toNat = (e.pointer.toNat + 1) % 256 := BitVec.toNat_add ..
  unfold Entry.nextPointer
  cases e.wrap with
  | run => simpa only [reduceCtorEq, false_and, if_false] using up
  | wrap =>
    simp only [true_and]
    split
    · rfl
    · exact up

/-- Settles O19. -/
theorem pointerStepFollowsTheWrapMode : Obligations.PointerStepFollowsTheWrapMode := by
  intro e nonempty short
  have step := e.nextPointer_toNat
  refine ⟨fun wrap last => ?_, fun wrap inner => ?_, fun run => ?_, fun wrap inside => ?_, fun full => ?_⟩
  · rw [if_pos ⟨wrap, by omega⟩] at step
    exact BitVec.eq_of_toNat_eq step
  · rwa [if_neg fun h => inner (by omega)] at step
  · rwa [if_neg fun h => by rw [run] at h; cases h.1] at step
  · rw [step]
    split
    · omega
    · rename_i other
      have inner : e.pointer.toNat + 1 ≠ e.length := fun last => other ⟨wrap, last⟩
      omega
  · rw [step]
    split
    · omega
    · rfl

end Sys2Proof.Machine
end

section
/-! PROOFS. The completions of a byte in a write transaction (4.5) and the byte needs that are sent at once
(7.1): which row the edge is, and one equation for each place a byte can find. -/

namespace Sys2Proof.Machine

open Sys2Proof.Safety

/-! ## Shared by every byte -/

/-- Bus activity restarts a running abandon timer with its full period (R65). -/
theorem Segment.busActivity_of_running {x : Segment} (running : x.abandonTimer.isSome = true) :
    x.busActivity = restarted x := by
  obtain ⟨n, timer⟩ := Option.isSome_iff_exists.1 running
  simp [Segment.busActivity, restarted, Segment.abandonPeriod, Config.ticksPerAbandonUnit, timer]

/-- The falling edge after the eighth bit of a sub-address is the byte's completion (R46). -/
theorem State.subAddressByte_arises {s : State} {g : Seg} {t : Txn} (sampled : ByteSampled s g)
    (state : (s.seg g).state = .wSubaddr t) : s.fallArises g .subAddressByte = true := by
  obtain ⟨awake, high, eighth⟩ := sampled
  simp [State.fallArises, State.canFall, Segment.fallRow, ByteClock.receiverFallRow, awake, high, eighth,
    state]

/-- The falling edge after the eighth bit of a data byte is the byte's completion (R46). -/
theorem State.writeDataByte_arises {s : State} {g : Seg} {t : Txn} (sampled : ByteSampled s g)
    (state : (s.seg g).state = .wData t ∨ (s.seg g).state = .wRefusing t) :
    s.fallArises g .writeDataByte = true := by
  obtain ⟨awake, high, eighth⟩ := sampled
  rcases state with state | state <;>
    simp [State.fallArises, State.canFall, Segment.fallRow, ByteClock.receiverFallRow, awake, high, eighth,
      state]

/-- The falling edge that ends an acknowledge clock in R_DATA is a byte need (R57). -/
theorem State.byteNeed_arises {s : State} {g : Seg} {t : Txn} {k : AckKind} (awake : s.inReset = false)
    (high : (s.lines g).scl = true) (state : (s.seg g).state = .rData t)
    (ninth : (s.seg g).clock = .ack k true) : s.fallArises g .byteNeed = true := by
  simp [State.fallArises, State.canFall, Segment.fallRow, ByteClock.senderFallRow, awake, high, ninth, state]

theorem exec_writeDataByte_of_wData {s : State} {g : Seg} {t : Txn} (sampled : ByteSampled s g)
    (state : (s.seg g).state = .wData t) : exec (.writeDataByte g) s = .next (s.completeData g t) := by
  simp only [exec, execWriteDataByte, State.writeDataByte_arises sampled (.inl state), if_true, state]

theorem exec_writeDataByte_of_wRefusing {s : State} {g : Seg} {t : Txn} (sampled : ByteSampled s g)
    (state : (s.seg g).state = .wRefusing t) :
    exec (.writeDataByte g) s = .next (s.completeRefused g t) := by
  simp only [exec, execWriteDataByte, State.writeDataByte_arises sampled (.inr state), if_true, state]

theorem State.lowerClock_eq_sclFell (s : State) (g : Seg) : s.lowerClock g = sclFell s g := rfl

@[simp] theorem sclFell_seg (s : State) (g h : Seg) : (sclFell s g).seg h = s.seg h :=
  State.setLines_seg ..

@[simp] theorem sclFell_entry (s : State) (g : Seg) (k : Fin 16) : (sclFell s g).entry k = s.entry k :=
  State.setLines_entry ..

@[simp] theorem sclFell_image (s : State) (g : Seg) : (sclFell s g).image = s.image :=
  State.setLines_image ..

@[simp] theorem sclFell_pool (s : State) (g : Seg) : (sclFell s g).pool = s.pool :=
  State.setLines_pool ..

@[simp] theorem sclFell_events (s : State) (g : Seg) : (sclFell s g).events = s.events :=
  State.setLines_events ..

/-! ## The sub-address byte (R54) -/

/-- Settles O28. -/
theorem subAddressByteSetsThePointer : Obligations.SubAddressByteSetsThePointer := by
  intro s g t sampled state running
  have taken : exec (.subAddressByte g) s = .next (s.completeSubAddress g t) := by
    simp only [exec, execSubAddressByte, State.subAddressByte_arises sampled state, if_true, Segment.txn,
      state, SegState.txn]
  rw [taken, State.completeSubAddress, State.lowerClock_eq_sclFell, State.onSeg, State.onEntry,
    State.setEntry_seg, sclFell_seg, sclFell_entry]
  exact congrArg (fun x => Host.Outcome.next (State.setSeg _ g x)) (Segment.busActivity_of_running running)

/-! ## Refused and acknowledged data bytes (R55, R56) -/

/-- The change CUT makes to the last item of a list. -/
theorem mapLast_eq {α : Type} (f : α → α) (l : List α) :
    mapLast f l = l.dropLast ++ l.getLast?.toList.map f := by
  fun_induction mapLast f l with
  | case1 => rfl
  | case2 a => rfl
  | case3 a b rest ih => simp [ih]

theorem mapLast_concat {α : Type} (f : α → α) (l : List α) (a : α) : mapLast f (l ++ [a]) = l ++ [f a] := by
  simp [mapLast_eq]

theorem Txn.cutLast_eq_cut (t : Txn) : t.cutLast = cut t := by
  rw [Txn.cutLast, mapLast_eq, cut]

section Bytes

variable {s : State} {g : Seg}

/-- A refused byte raises the counter and leaves SDA released. -/
theorem State.refuseByte_eq (running : (s.seg g).abandonTimer.isSome = true) (t : Txn) :
    s.refuseByte g t = s.setSeg g (restarted
      { s.seg g with state := .wRefusing t, clock := .ack .dataRefused false, sdaLow := false
                     counters := (s.seg g).counters.countRefused }) :=
  congrArg (s.setSeg g) (Segment.busActivity_of_running running)

/-- An acknowledged byte pulls SDA low and leaves the segment in W_DATA. -/
theorem State.acceptByte_eq (running : (s.seg g).abandonTimer.isSome = true) (t : Txn) :
    s.acceptByte g t = s.setSeg g (restarted
      { s.seg g with state := .wData t, clock := .ack .dataAcked false, sdaLow := true }) :=
  congrArg (s.setSeg g) (Segment.busActivity_of_running running)

/-- A byte of the classes FIXED, unmapped and out-of-image is refused (R30). -/
theorem State.completeData_of_refused {t : Txn} (refused :
    (s.entry t.target).classify (s.entry t.target).pointer ∈
      [Classification.inRegion .fixed, .unmapped, .outOfImage]) :
    s.completeData g t = (s.lowerClock g).refuseByte g t.cutLast := by
  simp only [List.mem_cons, List.not_mem_nil, or_false] at refused
  rcases refused with answer | answer | answer <;> simp only [State.completeData, answer]

/-- A byte with a place, in the state `u` that the place leaves: it is acknowledged, and the image is as it
was or holds the byte at the pointer. -/
theorem State.acceptByte_placed {u : State} {k : Fin 16} (running : (s.seg g).abandonTimer.isSome = true)
    (canonical : ImageCanonical s)
    (inside : (s.entry k).base + (s.entry k).pointer.toNat < Config.imageBytes)
    (seg : u.seg g = s.seg g) (entry : u.entry k = s.entry k) (image : u.image = s.image)
    (applied : Bool) (b : Byte) (t : Txn) :
    ∃ m, (∀ a, Memory.read m a =
        if applied = true ∧ a = (s.entry k).base + (s.entry k).pointer.toNat then b
        else Memory.read s.image a)
      ∧ (if applied then u.applyByte k b else u).acceptByte g t = { u.setSeg g (restarted
          { s.seg g with state := .wData t, clock := .ack .dataAcked false, sdaLow := true })
          with image := m } := by
  rw [← seg, ← entry, ← image, ← State.acceptByte_eq (by rwa [seg])]
  cases applied with
  | false => exact ⟨u.image, fun a => by simp, by cases g <;> rfl⟩
  | true =>
    refine ⟨Memory.write u.image ((u.entry k).base + (u.entry k).pointer.toNat) b, fun a => ?_,
      by cases g <;> rfl⟩
    rw [Memory.read_write b a (by rwa [image]) (by rwa [entry])]
    simp only [true_and]

end Bytes

/-- Settles O29. -/
theorem refusedByteChangesOnlyTheCounter : Obligations.RefusedByteChangesOnlyTheCounter := by
  intro s g t sampled running x refused
  have equal (t' : Txn) : (s.lowerClock g).refuseByte g t' = refused t' := by
    have seg := sclFell_seg s g g
    rw [State.lowerClock_eq_sclFell, State.refuseByte_eq (by rwa [seg]), seg]
    rfl
  refine ⟨fun state class_ => ?_, fun state => ?_⟩
  · rw [exec_writeDataByte_of_wData sampled state, State.completeData_of_refused class_, equal,
      Txn.cutLast_eq_cut]
  · rw [exec_writeDataByte_of_wRefusing sampled state, State.completeRefused, equal]

/-- The pointer of an entry that is used stands inside image memory wherever a region covers it (R10). -/
theorem pointer_inside_of_entryLaw {e : Entry} (law : EntryLaw e) (used : e.life ≠ .free) {c : RegionClass}
    (class_ : e.classify e.pointer = .inRegion c) : e.base + e.pointer.toNat < Config.imageBytes := by
  obtain ⟨-, -, inside, -⟩ := law.2 used
  have below := Entry.lt_length_of_classify class_
  omega

/-- Settles O30. -/
theorem openByteIsAppliedAndAcknowledged : Obligations.OpenByteIsAppliedAndAcknowledged := by
  intro s g t sampled running canonical law used state class_
  obtain ⟨m, reads, placed⟩ := State.acceptByte_placed running canonical
    (pointer_inside_of_entryLaw law used class_) (sclFell_seg s g g)
    (sclFell_entry s g t.target) (sclFell_image s g) true (s.seg g).shift t.passOver
  refine ⟨m, ?_, by simpa only [true_and] using reads⟩
  rw [exec_writeDataByte_of_wData sampled state, State.completeData]
  simp only [class_]
  exact congrArg Host.Outcome.next placed

/-! ## Bytes that are recorded (R77, R80 to R83) -/

theorem OpenRecord.extendsTo_iff (r : OpenRecord) (unrecorded : Bool) (p : Byte) :
    r.extendsTo unrecorded p = true ↔
      r.data.length < 16 ∧ r.start.toNat + r.data.length = p.toNat ∧ unrecorded = false := by
  simp only [OpenRecord.extendsTo, Bool.and_eq_true, decide_eq_true_eq, Bool.not_eq_true', and_assoc]
  rfl

theorem Pool.grants_iff (p : Pool) (g : Seg) (quota : Byte) :
    p.grants g quota = true ↔ 1 ≤ p.free ∧ p.reserved g < quota.toNat := by
  simp [Pool.grants, Nat.succ_le_iff]

section Recording

variable {s : State} {g : Seg} {t : Txn}

theorem State.recording_of_extends {r : OpenRecord} (last : t.records.getLast? = some r)
    (extending : r.extendsTo t.unrecorded (s.entry t.target).pointer = true) :
    s.recording g t = .extended := by
  simp only [State.recording, Txn.lastRecord, last, extending, if_true]

/-- Without a record to extend, the pool decides. -/
theorem State.recording_of_not_extends (fresh : ∀ r, t.records.getLast? = some r →
    r.extendsTo t.unrecorded (s.entry t.target).pointer ≠ true) :
    s.recording g t = if s.pool.grants g (s.seg g).config.quota then .opened else .refused := by
  unfold State.recording Txn.lastRecord
  cases last : t.records.getLast? with
  | none => rfl
  | some r => simp only [Bool.eq_false_iff.2 (fresh r last), Bool.false_eq_true, if_false]

/-- A byte of the classes POSTED, QUEUED and DEFERRED is to be recorded, and a POSTED one applied (R31). -/
theorem State.completeData_of_recorded {c : RegionClass} (recorded : c ∈ [RegionClass.posted, .queued, .deferred])
    (class_ : (s.entry t.target).classify (s.entry t.target).pointer = .inRegion c) :
    s.completeData g t = (s.lowerClock g).recordByte g t (decide (c = .posted)) := by
  simp only [List.mem_cons, List.not_mem_nil, or_false] at recorded
  rcases recorded with rfl | rfl | rfl <;> simp only [State.completeData, class_] <;> rfl

end Recording

/-- Settles O31: the last open record, a newly opened one, or the refusal. -/
theorem recordedByteFindsItsPlace : Obligations.RecordedByteFindsItsPlace := by
  intro s g t c sampled running canonical law used state recorded class_ x e extending granted acked imageAfter
  have seg := sclFell_seg s g g
  have entry := sclFell_entry s g t.target
  have taken : exec (.writeDataByte g) s = .next ((sclFell s g).recordByte g t (decide (c = .posted))) := by
    rw [exec_writeDataByte_of_wData sampled state, State.completeData_of_recorded recorded class_]
    rfl
  have placed (u : State) (uSeg : u.seg g = x) (uEntry : u.entry t.target = e) (uImage : u.image = s.image)
      (t' : Txn) := State.acceptByte_placed running canonical (pointer_inside_of_entryLaw law used class_)
    uSeg uEntry uImage (decide (c = .posted)) x.shift t'
  simp only [decide_eq_true_eq] at placed
  have extends_iff (r : OpenRecord) :
      r.extendsTo t.unrecorded ((sclFell s g).entry t.target).pointer = true ↔ extending r := by
    rw [entry]
    exact r.extendsTo_iff ..
  have pooled (fresh : ∀ r, t.records.getLast? = some r → ¬ extending r) :
      (sclFell s g).recording g t = if s.pool.grants g x.config.quota then .opened else .refused := by
    rw [State.recording_of_not_extends fun r last => mt (extends_iff r).1 (fresh r last),
      sclFell_pool, seg]
  simp only [taken]
  refine ⟨fun older r last fits => ?_, fun fresh free => ?_, fun fresh full => ?_⟩
  · obtain ⟨m, reads, equal⟩ := placed (sclFell s g) seg entry (sclFell_image s g) (t.extend x.shift)
    have place := State.recording_of_extends (g := g) (by simp [last]) ((extends_iff r).2 fits)
    refine ⟨m, reads, ?_⟩
    simp only [State.recordByte, place, seg, decide_eq_true_eq]
    rw [equal, Txn.extend, last, mapLast_concat]
    rfl
  · have place := (pooled fresh).trans (if_pos ((Pool.grants_iff ..).2 free))
    obtain ⟨m, reads, equal⟩ := placed { sclFell s g with pool := (sclFell s g).pool.reserve g }
      (by cases g <;> rfl) entry (sclFell_image s g)
      (t.openWith (newRecord g (s.entry t.target) t x.shift))
    refine ⟨m, reads, ?_⟩
    simp only [State.recordByte, place, seg, entry, decide_eq_true_eq]
    rw [equal, sclFell_pool]
    cases g <;> rfl
  · have place := (pooled fresh).trans (if_neg (mt (Pool.grants_iff ..).1 full))
    simp only [State.recordByte, place]
    rw [State.refuseByte_eq (by rwa [seg]), seg, Txn.cutLast_eq_cut]
    rfl

/-! ## Byte needs that are sent at once (R110, steps 1 to 4) -/

theorem ReadAhead.serves_iff (a : ReadAhead) (p : Byte) :
    a.serves p = true ↔ a.bytes ≠ [] ∧ a.next = p.toNat := by
  simp [ReadAhead.serves]

/-- A read-ahead with a byte taken off: discarded where that was its last (R121). -/
theorem ReadAhead.consume_of_cons {a : ReadAhead} {b : Byte} {rest : List Byte} (h : a.bytes = b :: rest) :
    a.consume = if rest = [] then ReadAhead.empty else { next := a.next + 1, bytes := rest } := by
  unfold ReadAhead.consume
  rw [h]
  cases rest <;> rfl

section Source

variable {s : State} {t : Txn}

/-- The image byte of a sub-address whose region holds its bytes in the image (R28). -/
theorem State.byteSource_of_image {c : RegionClass} (held : c ≠ .deferred)
    (class_ : (s.entry t.target).classify (s.entry t.target).pointer = .inRegion c) :
    s.byteSource t = .now (s.imageByte t.target (s.entry t.target).pointer) := by
  cases c with
  | deferred => exact absurd rfl held
  | fixed | open_ | posted | queued => simp only [State.byteSource, class_]

/-- The fill byte of a sub-address without a region (R28). -/
theorem State.byteSource_of_no_region
    (class_ : (s.entry t.target).classify (s.entry t.target).pointer = .unmapped
      ∨ (s.entry t.target).classify (s.entry t.target).pointer = .outOfImage) :
    s.byteSource t = .now (s.entry t.target).fill := by
  rcases class_ with class_ | class_ <;> simp only [State.byteSource, class_]

variable (class_ : (s.entry t.target).classify (s.entry t.target).pointer = .inRegion .deferred)
include class_

theorem State.byteSource_of_expired (expired : t.expired = true) :
    s.byteSource t = .now (s.entry t.target).fill := by
  simp only [State.byteSource, class_, expired, if_true]

variable (fresh : t.expired = false)
include fresh

theorem State.byteSource_of_serves {b : Byte} {rest : List Byte} (bytes : t.ahead.bytes = b :: rest)
    (next : t.ahead.next = (s.entry t.target).pointer.toNat) : s.byteSource t = .fromAhead b := by
  have serves := (t.ahead.serves_iff (s.entry t.target).pointer).2 ⟨by simp [bytes], next⟩
  simp only [State.byteSource, class_, fresh, serves, bytes, Bool.false_eq_true, if_false, if_true,
    List.headD_cons]

theorem State.byteSource_of_asleep
    (unserved : ¬ (t.ahead.bytes ≠ [] ∧ t.ahead.next = (s.entry t.target).pointer.toNat))
    (asleep : s.events.host = .asleep) (policy : (s.entry t.target).sleep = .fill) :
    s.byteSource t = .filledAsleep (s.entry t.target).fill := by
  rw [← ReadAhead.serves_iff] at unserved
  simp only [State.byteSource, class_, fresh, unserved, asleep, policy, Bool.false_eq_true, if_false, and_self,
    if_true]

end Source

/-- The source of a needed byte does not depend on the lines and the abandon timer, which the edge has
changed by then (R57). -/
theorem State.byteSource_edge (s : State) (g : Seg) (x : Segment) (t : Txn) :
    ((sclFell s g).setSeg g x).byteSource t = s.byteSource t := by
  simp only [State.byteSource, State.imageByte, State.setSeg_entry, State.setSeg_image, State.setSeg_events,
    sclFell_entry, sclFell_image, sclFell_events]

/-- Settles O35: the transaction that needed the byte sends the one its source names. -/
theorem neededByteIsSentAtOnce : Obligations.NeededByteIsSentAtOnce := by
  intro s g t k awake high state ninth running e class_ next none_ sends serves
  let edge : State := (sclFell s g).setSeg g (restarted (s.seg g))
  have taken : exec (.byteNeed g) s = .next (edge.needByte g t) := by
    simp only [exec, execByteNeed, State.byteNeed_arises awake high state ninth, if_true, Segment.txn, state,
      SegState.txn, State.takeByteNeed, State.onSeg, State.lowerClock_eq_sclFell, sclFell_seg,
      Segment.busActivity_of_running running]
    rfl
  have source : edge.byteSource t = s.byteSource t := State.byteSource_edge ..
  have sent (t' : Txn) (b : Byte) : edge.onSeg g (Segment.transmit t' b) = sends t' b := by
    simp only [edge, State.onSeg, State.setSeg_seg_same, State.setSeg_setSeg]
    rfl
  have now {b : Byte} (h : s.byteSource t = .now b) : edge.needByte g t = sends (next none_) b := by
    simp only [State.needByte, source, h]
    exact sent _ b
  simp only [taken]
  refine ⟨fun image => ?_, fun fill => ?_, fun deferred => ⟨fun expired => ?_, fun fresh => ⟨?_, ?_⟩⟩⟩
  · obtain ⟨c, held, inRegion⟩ : ∃ c, c ≠ .deferred ∧ class_ = .inRegion c := by
      simp only [List.mem_cons, List.not_mem_nil, or_false] at image
      rcases image with h | h | h | h <;> exact ⟨_, by simp, h⟩
    rw [now (State.byteSource_of_image held inRegion)]
    rfl
  · rw [now (State.byteSource_of_no_region fill)]
  · rw [now (State.byteSource_of_expired deferred expired)]
  · intro b rest bytes position
    have ahead := State.byteSource_of_serves deferred fresh bytes position
    simp only [State.needByte, source, ahead, ReadAhead.consume_of_cons bytes]
    exact congrArg Host.Outcome.next (sent _ b)
  · intro unserved asleep policy
    have filled := State.byteSource_of_asleep deferred fresh unserved asleep policy
    simp only [State.needByte, source, filled, edge, State.onSeg, State.setSeg_seg_same, State.setSeg_setSeg]
    rfl

end Sys2Proof.Machine
end

section
/-! PROOFS. The completion checks of REGIONS, IMAGE_PUT and IMAGE_GET (3.5 to 3.7): REGIONS' slots and validity
in the spec's own terms, one equation for each outcome, and the statements O48, O49 and O50 assembled from
them. -/

namespace Sys2Proof.Machine

open Sys2Proof.Safety

/-! ## The slots of REGIONS (8.8) -/

theorem allOf_eq_some_iff {α : Type} {items : List (Option α)} {l : List α} :
    allOf items = some l ↔ items = l.map some := by
  induction items generalizing l with
  | nil => cases l <;> simp [allOf]
  | cons item rest ih =>
    cases item with
    | none => cases l <;> simp [allOf]
    | some a =>
      rw [allOf]
      cases tail : allOf rest with
      | none =>
        have missing (m : List α) : rest ≠ m.map some := fun h => by rw [← ih, tail] at h; cases h
        cases l <;> simp [missing]
      | some m => cases l <;> simp [ih.1 tail, (List.map_injective_iff.2 (Option.some_injective α)).eq_iff]

/-- A list made item by item is all there exactly when each of its items is. -/
theorem allOf_map_range_iff {α : Type} (f : Nat → Option α) (n : Nat) (l : List α) :
    allOf ((List.range n).map f) = some l ↔
      l.length = n ∧ ∀ i a, l[i]? = some a → f i = some a := by
  rw [allOf_eq_some_iff]
  constructor
  · intro equal
    have length : l.length = n := by simpa using (congrArg List.length equal).symm
    refine ⟨length, fun i a at_ => ?_⟩
    have below : i < n := length ▸ (List.getElem?_eq_some_iff.1 at_).1
    simpa [below, at_] using congrArg (·[i]?) equal
  · rintro ⟨rfl, items⟩
    refine List.ext_getElem (by simp) fun i below below' => ?_
    simpa using items i _ (List.getElem?_eq_getElem (by simpa using below))

theorem classOfCode_eq_some_iff {b : Byte} {c : RegionClass} : classOfCode b = some c ↔ b = classCode c := by
  revert b
  cases c <;> decide

theorem regionSlot_eq_some_iff {start length cls : Byte} {r : Region} :
    regionSlot start length cls = some r ↔
      r.start = start ∧ r.length = lengthOfByte length ∧ cls = classCode r.cls := by
  obtain ⟨start', length', cls'⟩ := r
  rw [← classOfCode_eq_some_iff, regionSlot]
  cases classOfCode cls <;> simp [eq_comm]

/-- Slot `i` of REGIONS' parameters. -/
def slotAt (p : Params) (i : Nat) : Option Region :=
  regionSlot (p.toList.getD (3 * i + 2) 0) (p.toList.getD (3 * i + 3) 0) (p.toList.getD (3 * i + 4) 0)

/-- REGIONS reads the slots within its count, in order (R35, R151). -/
theorem regionList_eq_some_iff (p : Params) (l : List Region) :
    regionList p = some l ↔ p[1].toNat ≤ 4 ∧ l.length = p[1].toNat
      ∧ ∀ i r, l[i]? = some r → slotAt p i = some r := by
  have slots : [regionSlot p[2] p[3] p[4], regionSlot p[5] p[6] p[7], regionSlot p[8] p[9] p[10],
      regionSlot p[11] p[12] p[13]] = (List.range 4).map (slotAt p) := by
    simp [List.range_succ, slotAt]
  unfold regionList
  rw [slots, ← List.map_take, List.take_range]
  change (if p[1].toNat ≤ 4 then _ else none) = some l ↔ _
  by_cases few : p[1].toNat ≤ 4
  · rw [if_pos few, Nat.min_eq_left few, allOf_map_range_iff]
    exact (and_iff_right few).symm
  · rw [if_neg few]
    exact iff_of_false (by simp) fun given => few given.1

theorem lengthOfByte_pos (b : Byte) : 1 ≤ lengthOfByte b := by
  unfold lengthOfByte
  split
  · decide
  · bv_omega

/-- A region that REGIONS reads is not empty (8.8). -/
theorem length_pos_of_regionList {p : Params} {l : List Region} (list : regionList p = some l) {r : Region}
    (mem : r ∈ l) : 1 ≤ r.length := by
  obtain ⟨-, -, slots⟩ := (regionList_eq_some_iff p l).1 list
  obtain ⟨i, at_⟩ := List.mem_iff_getElem?.1 mem
  obtain ⟨-, length, -⟩ := regionSlot_eq_some_iff.1 (slots i r at_)
  exact length ▸ lengthOfByte_pos _

/-- Two regions that are not empty meet exactly when they share a sub-address. -/
theorem Region.meets_iff {r q : Region} (filled : 1 ≤ r.length) (filled' : 1 ≤ q.length) :
    r.meets q = true ↔ ∃ x, InRegion r x ∧ InRegion q x := rangesShare_iff filled filled'

/-- The validity of R35 in the spec's terms. -/
theorem validRegions_iff {length : Nat} {l : List Region} (filled : ∀ r ∈ l, 1 ≤ r.length) :
    validRegions length l = true ↔ (∀ r ∈ l, r.start.toNat + r.length ≤ length)
      ∧ l.Pairwise fun r q => ¬ ∃ x, InRegion r x ∧ InRegion q x := by
  simp only [validRegions, Bool.and_eq_true, List.all_eq_true, decide_eq_true_eq, disjointRegions_iff]
  refine and_congr_right' (List.Pairwise.iff_of_mem fun memR memQ => ?_)
  rw [← Region.meets_iff (filled _ memR) (filled _ memQ), Bool.not_eq_true]

/-! ## REGIONS (R35 to R37) -/

section Regions

variable {s : State} {k : Fin 16}

theorem State.checkRegions_badIndex (large : 16 ≤ s.engine.latched[0].toNat) :
    s.checkRegions = s.complete .badIndex := by
  rw [State.checkRegions, indexOf_eq_none large]

variable (index : s.engine.latched[0].toNat = k.val)
include index

theorem State.checkRegions_badState (other : (s.entry k).life = .free ∨ (s.entry k).life = .closing) :
    s.checkRegions = s.complete .badState := by
  have refused : (s.entry k).life ≠ .defined ∧ (s.entry k).life ≠ .active := by
    rcases other with life | life <;> simp [life]
  simp only [State.checkRegions, indexOf_eq_some index, if_pos refused]

variable (life : (s.entry k).life = .defined ∨ (s.entry k).life = .active)
include life

omit index in
/-- The two states REGIONS takes pass its second check. -/
theorem State.not_badState_of_life : ¬ ((s.entry k).life ≠ .defined ∧ (s.entry k).life ≠ .active) := by
  rcases life with life | life <;> simp [life]

theorem State.checkRegions_badParam
    (invalid : ∀ l, regionList s.engine.latched = some l → validRegions (s.entry k).length l = false) :
    s.checkRegions = s.complete .badParam := by
  simp only [State.checkRegions, indexOf_eq_some index, if_neg (State.not_badState_of_life life)]
  split
  · rfl
  · rw [if_pos (invalid _ (by assumption))]

variable {l : List Region} (list : regionList s.engine.latched = some l)
  (valid : validRegions (s.entry k).length l = true)
include list valid

theorem State.checkRegions_await (active : (s.entry k).life = .active) (bound : s.entryBound k = true) :
    s.checkRegions = s.await (s.entry k).segment (.regions k l) := by
  simp only [State.checkRegions, indexOf_eq_some index, if_neg (State.not_badState_of_life life), list, valid,
    Bool.true_eq_false, if_false, if_pos (And.intro active bound)]

theorem State.checkRegions_ok (now : ¬ ((s.entry k).life = .active ∧ s.entryBound k = true)) :
    s.checkRegions = (s.setRegions k l).complete .ok := by
  simp only [State.checkRegions, indexOf_eq_some index, if_neg (State.not_badState_of_life life), list, valid,
    Bool.true_eq_false, if_false, if_neg now]

end Regions

/-- Settles O48. -/
theorem regionsStoresOrWaits : Obligations.RegionsStoresOrWaits := by
  intro s running p slot reads given valid bound
  have taken : exec .regions s = .next s.checkRegions :=
    congrArg Host.Outcome.next (State.atCheck_eq_of_running running State.checkRegions)
  have reads_iff (i : Nat) (r : Region) : slotAt p i = some r ↔ reads i r := by
    rw [slotAt, regionSlot_eq_some_iff]
    cases h : r.cls <;> simp only [reads, slot, lengthOfByte, classCode, h]
  have given_iff (l : List Region) : regionList p = some l ↔ given l := by
    simp only [regionList_eq_some_iff, reads_iff, given]
  have valid_iff (k : Fin 16) {l : List Region} (list : regionList p = some l) :
      validRegions (s.entry k).length l = true ↔ valid k l :=
    validRegions_iff fun _ => length_pos_of_regionList list
  rw [taken]
  refine ⟨fun large => ?_, fun k index => ⟨fun other => ?_, fun life => ⟨fun invalid => ?_,
    fun l list fits => ⟨fun now => ?_, fun active held => ?_⟩⟩⟩⟩
  · rw [State.checkRegions_badIndex large]
  · rw [State.checkRegions_badState index other]
  · rw [State.checkRegions_badParam index life fun l list => Bool.eq_false_iff.2 fun fits =>
      invalid ⟨l, (given_iff l).1 list, (valid_iff k list).1 fits⟩]
  · rw [← given_iff] at list
    refine ⟨sortRegions l, sortRegions_perm l, sortRegions_pairwise l, ?_⟩
    rw [State.checkRegions_ok index life list ((valid_iff k list).2 fits)]
    · rfl
    · rintro ⟨active, held⟩
      rcases now with defined | unbound
      · rw [active] at defined; cases defined
      · exact unbound ((State.entryBound_iff s k).1 held)
  · rw [← given_iff] at list
    rw [State.checkRegions_await index life list ((valid_iff k list).2 fits) active
      ((State.entryBound_iff s k).2 held)]
    rfl

/-! ## IMAGE_PUT (R39 to R41) -/

theorem atomicOfCode_eq (b : Byte) :
    atomicOfCode b = if b.toNat ≤ 1 then some (if b = 0 then false else true) else none := twoCodes_eq ..

/-- IMAGE_PUT's bytes are as many as its count of 12 at most (8.8). -/
theorem putBytes_length {p : Params} (few : p[2].toNat ≤ 12) : (putBytes p).length = p[2].toNat := by
  simp [putBytes, few]

/-- IMAGE_PUT's parameters are valid for an image length: step 3 of R39. -/
def ValidPut (p : Params) (length : Nat) : Prop :=
  1 ≤ p[2].toNat ∧ p[2].toNat ≤ 12 ∧ p[1].toNat + p[2].toNat ≤ length ∧ p[3].toNat ≤ 1

section ImagePut

variable {s : State} {k : Fin 16}

theorem State.checkImagePut_badIndex (large : 16 ≤ s.engine.latched[0].toNat) :
    s.checkImagePut = s.complete .badIndex := by
  simp only [State.checkImagePut, indexOf_eq_none large]

variable (index : s.engine.latched[0].toNat = k.val)
include index

theorem State.checkImagePut_badState (free : (s.entry k).life = .free) :
    s.checkImagePut = s.complete .badState := by
  simp only [State.checkImagePut, indexOf_eq_some index, if_pos free]

variable (used : (s.entry k).life ≠ .free)
include used

theorem State.checkImagePut_badParam (invalid : ¬ ValidPut s.engine.latched (s.entry k).length) :
    s.checkImagePut = s.complete .badParam := by
  simp only [State.checkImagePut, indexOf_eq_some index, if_neg used, atomicOfCode_eq]
  by_cases code : s.engine.latched[3].toNat ≤ 1
  · rw [if_pos code]
    exact if_neg fun ⟨nonzero, few, inside⟩ => invalid ⟨nonzero, few, inside, code⟩
  · rw [if_neg code]

variable (valid : ValidPut s.engine.latched (s.entry k).length)
include valid

/-- With its checks passed an IMAGE_PUT waits where it is ATOMIC and its entry bound, and writes otherwise. -/
theorem State.checkImagePut_of_valid : s.checkImagePut =
    if s.engine.latched[3] ≠ 0 ∧ s.entryBound k = true then
      s.await (s.entry k).segment (.imagePut k s.engine.latched[1] (putBytes s.engine.latched))
    else (s.putImage k s.engine.latched[1] (putBytes s.engine.latched)).complete .ok := by
  obtain ⟨nonzero, few, inside, code⟩ := valid
  simp only [State.checkImagePut, indexOf_eq_some index, if_neg used, atomicOfCode_eq, if_pos code,
    if_pos (And.intro nonzero (And.intro few inside))]
  refine if_congr (and_congr_left' ?_) rfl rfl
  split <;> simp_all

end ImagePut

/-- Settles O49. -/
theorem imagePutWritesOrWaits : Obligations.ImagePutWritesOrWaits := by
  intro s running canonical p count bytes bound
  have taken : exec .imagePut s = .next s.checkImagePut :=
    congrArg Host.Outcome.next (State.atCheck_eq_of_running running State.checkImagePut)
  rw [taken]
  refine ⟨fun large => ?_, fun k index law => ?_⟩
  · rw [State.checkImagePut_badIndex large]
  intro valid at_
  refine ⟨fun free => ?_, fun used => ⟨fun invalid => ?_, fun fits => ⟨fun now => ?_, fun atomic held => ?_⟩⟩⟩
  · rw [State.checkImagePut_badState index free]
  · rw [State.checkImagePut_badParam index used invalid]
  · obtain ⟨-, -, range, -⟩ := law.2 used
    have ⟨_, few, inside, _⟩ := fits
    have length : bytes.length = count := putBytes_length few
    have writes : ¬ (p[3] ≠ 0 ∧ s.entryBound k = true) := fun ⟨atomic, held⟩ =>
      now.elim atomic fun unbound => unbound ((State.entryBound_iff s k).1 held)
    refine ⟨Memory.writeAll s.image at_ bytes, ?_, fun a => ?_⟩
    · rw [State.checkImagePut_of_valid index used fits, if_neg writes]
      rfl
    · rw [← length]
      exact Memory.read_writeAll canonical (by rw [length]; omega) a
  · have waits : p[3] ≠ 0 ∧ s.entryBound k = true :=
      ⟨by rw [atomic]; decide, (State.entryBound_iff s k).2 held⟩
    rw [State.checkImagePut_of_valid index used fits, if_pos waits]
    rfl

/-! ## IMAGE_GET (R42) -/

section ImageGet

variable {s : State} {k : Fin 16}

theorem State.checkImageGet_badIndex (large : 16 ≤ s.engine.latched[0].toNat) :
    s.checkImageGet = s.complete .badIndex := by
  simp only [State.checkImageGet, indexOf_eq_none large]

variable (index : s.engine.latched[0].toNat = k.val)
include index

theorem State.checkImageGet_badState (free : (s.entry k).life = .free) :
    s.checkImageGet = s.complete .badState := by
  simp only [State.checkImageGet, indexOf_eq_some index, if_pos free]

/-- With the index and the state found good, the count and the range decide. -/
theorem State.checkImageGet_of_used (used : (s.entry k).life ≠ .free) : s.checkImageGet =
    if 1 ≤ s.engine.latched[2].toNat ∧ s.engine.latched[2].toNat ≤ 16
        ∧ s.engine.latched[1].toNat + s.engine.latched[2].toNat ≤ (s.entry k).length then
      (s.writeResults 0 (Memory.readAll s.image ((s.entry k).base + s.engine.latched[1].toNat)
        s.engine.latched[2].toNat)).complete .ok
    else s.complete .badParam := by
  simp only [State.checkImageGet, indexOf_eq_some index, if_neg used]

end ImageGet

/-- Settles O50. -/
theorem imageGetCopiesTheBytes : Obligations.ImageGetCopiesTheBytes := by
  intro s running p count
  have taken : exec .imageGet s = .next s.checkImageGet :=
    congrArg Host.Outcome.next (State.atCheck_eq_of_running running State.checkImageGet)
  rw [taken]
  refine ⟨fun large => ?_, fun k index => ⟨fun free => ?_, fun used => ⟨fun invalid => ?_, fun valid => ?_⟩⟩⟩
  · rw [State.checkImageGet_badIndex large]
  · rw [State.checkImageGet_badState index free]
  · rw [State.checkImageGet_of_used index used, if_neg invalid]
  · refine ⟨Memory.readAll s.image ((s.entry k).base + p[1].toNat) count, Memory.readAll_length .., ?_,
      fun i => Memory.getElem?_readAll s.image _⟩
    rw [State.checkImageGet_of_used index used, if_pos valid]

end Sys2Proof.Machine
end

section
/-! PROOFS. What the part does to image memory (R25): most operations leave it alone, and the others write
bytes into it or, at RESET, clear it. So every step keeps its canonical form (O9). -/

namespace Sys2Proof.Machine

open Sys2Proof.Safety

/-! ## The operations that leave image memory alone -/

@[simp] theorem State.onSeg_image (s : State) (g : Seg) (f : Segment → Segment) :
    (s.onSeg g f).image = s.image := State.setSeg_image ..

@[simp] theorem State.onEntry_image (s : State) (k : Fin 16) (f : Entry → Entry) :
    (s.onEntry k f).image = s.image := rfl

@[simp] theorem State.lowerClock_image (s : State) (g : Seg) : (s.lowerClock g).image = s.image :=
  State.setLines_image ..

@[simp] theorem State.raiseClock_image (s : State) (g : Seg) (sda : Bool) :
    (s.raiseClock g sda).image = s.image := State.setLines_image ..

@[simp] theorem State.commitRecords_image (s : State) (g : Seg) (cause : CommitCause) (l : List OpenRecord) :
    (s.commitRecords g cause l).image = s.image := by
  obtain ⟨index, events, equal⟩ := State.commitRecords_eq s g cause l
  rw [equal]

@[simp] theorem State.acceptByte_image (s : State) (g : Seg) (t : Txn) :
    (s.acceptByte g t).image = s.image := State.onSeg_image ..

@[simp] theorem State.refuseByte_image (s : State) (g : Seg) (t : Txn) :
    (s.refuseByte g t).image = s.image := State.onSeg_image ..

theorem State.completeAddress_image (s : State) (g : Seg) : (s.completeAddress g).image = s.image := by
  unfold State.completeAddress
  dsimp only
  split <;> simp

theorem State.completeSubAddress_image (s : State) (g : Seg) (t : Txn) :
    (s.completeSubAddress g t).image = s.image := by
  simp [State.completeSubAddress]

theorem State.completeRefused_image (s : State) (g : Seg) (t : Txn) :
    (s.completeRefused g t).image = s.image := by
  simp [State.completeRefused]

theorem State.takeWriteAck_image (s : State) (g : Seg) (t : Txn) (sda : Bool) :
    (s.takeWriteAck g t sda).image = s.image := by
  simp [State.takeWriteAck]

theorem State.takeMasterAck_image (s : State) (g : Seg) (t : Txn) (sda : Bool) :
    (s.takeMasterAck g t sda).image = s.image := by
  simp [State.takeMasterAck]

theorem State.needByte_image (s : State) (g : Seg) (t : Txn) : (s.needByte g t).image = s.image := by
  rcases State.needByte_cases s g t with ⟨ahead, b, equal⟩ | ⟨b, equal⟩ | equal
  · rw [equal]; exact State.onSeg_image ..
  · rw [equal]; exact State.onSeg_image ..
  · rw [equal]; exact State.onSeg_image ..

theorem State.takeByteNeed_image (s : State) (g : Seg) (t : Txn) : (s.takeByteNeed g t).image = s.image := by
  simp [State.takeByteNeed, State.needByte_image]

theorem State.expireStretch_image (s : State) (g : Seg) (t : Txn) (r : Request) :
    (s.expireStretch g t r).image = s.image := State.onSeg_image ..

theorem State.clockEdge_image (s : State) (g : Seg) (edge : ClockEdge) :
    (s.clockEdge g edge).image = s.image := by
  unfold State.clockEdge
  cases edge with
  | rise sda => dsimp only; split <;> split <;> simp
  | fall => dsimp only; split <;> split <;> simp

theorem State.commitAnswer_image (s : State) : s.commitAnswer.image = s.image := by
  rcases State.commitAnswer_cases s with ⟨g, t, r, -, -, equal⟩ | equal
  · rw [equal]; exact State.onSeg_image ..
  · rw [equal]

theorem State.popHead_image (s : State) : s.popHead.image = s.image := by
  unfold State.popHead
  split <;> rfl

theorem State.abortCommand_image (s : State) : s.abortCommand.image = s.image := by
  unfold State.abortCommand
  split
  · rename_i h _
    cases h <;> rfl
  · rfl
  · rfl

theorem State.writeAnswerControl_image (s : State) (value : Byte) :
    (s.writeAnswerControl value).image = s.image := by
  unfold State.writeAnswerControl
  split
  · exact State.commitAnswer_image s
  · split <;> rfl

theorem State.writeUpper_image (s : State) (n : Nat) (value : Byte) : (s.writeUpper n value).image = s.image := by
  unfold State.writeUpper
  split
  · rfl
  · split <;> rfl
  · rfl
  · rfl

/-- The host reaches image memory by commands alone (R38): no write to the window changes it. -/
theorem State.takeWrite_image (s : State) (location : Location) (value : Byte) :
    (s.takeWrite location value).image = s.image := by
  unfold State.takeWrite
  split
  case h_12 => exact State.abortCommand_image s
  case h_15 => exact State.writeAnswerControl_image s value
  case h_16 => exact State.popHead_image s
  case h_17 => exact State.writeUpper_image s _ value
  all_goals rfl

theorem State.hostWrite_image (s : State) (location : Location) (value : Byte) :
    (s.hostWrite location value).image = s.image := by
  unfold State.hostWrite
  split
  · rfl
  · exact State.takeWrite_image s.endRead location value

theorem State.hostWriteDisregarded_image (s : State) : s.hostWriteDisregarded.image = s.image := by
  unfold State.hostWriteDisregarded
  split <;> rfl

theorem State.hostReadAccess_image (s : State) (location : Location) :
    (s.hostReadAccess location).image = s.image := by
  unfold State.hostReadAccess State.readSideEffect
  split
  · rfl
  · split <;> rfl

/-! ## The completion checks that leave it alone -/

theorem State.checkDefine_image (s : State) : s.checkDefine.image = s.image := by
  unfold State.checkDefine
  split
  · rfl
  split
  · rfl
  split
  · rfl
  split <;> rfl

theorem State.checkEnable_image (s : State) : s.checkEnable.image = s.image := by
  unfold State.checkEnable
  split
  · rfl
  split
  · rfl
  split <;> rfl

theorem State.checkRelease_image (s : State) : s.checkRelease.image = s.image := by
  unfold State.checkRelease
  split
  · rfl
  split <;> rfl

theorem State.checkVtQuery_image (s : State) : s.checkVtQuery.image = s.image := by
  unfold State.checkVtQuery
  split
  · rfl
  split
  · rfl
  split <;> rfl

theorem State.checkRegions_image (s : State) : s.checkRegions.image = s.image := by
  unfold State.checkRegions
  split
  · rfl
  split
  · rfl
  split
  · rfl
  split
  · rfl
  split <;> rfl

theorem State.checkImageGet_image (s : State) : s.checkImageGet.image = s.image := by
  unfold State.checkImageGet
  dsimp only
  split
  · rfl
  split
  · rfl
  split <;> rfl

theorem State.checkFlush_image (s : State) : s.checkFlush.image = s.image := by
  unfold State.checkFlush
  split <;> rfl

theorem State.checkQueueConfig_image (s : State) : s.checkQueueConfig.image = s.image := by
  unfold State.checkQueueConfig
  dsimp only
  split <;> rfl

theorem State.checkClearCounters_image (s : State) : s.checkClearCounters.image = s.image := by
  unfold State.checkClearCounters
  split
  · rfl
  dsimp only
  split <;> split <;> rfl

/-! ## The operations that write it -/

section Canonical

variable {s : State} (canonical : ImageCanonical s)
include canonical

/-- A state with the same image is as canonical. -/
theorem imageCanonical_of_eq {u : State} (same : u.image = s.image) : ImageCanonical u := by
  rwa [ImageCanonical, same]

theorem State.putImage_canonical (k : Fin 16) (offset : Byte) (bytes : List Byte) :
    ImageCanonical (s.putImage k offset bytes) := Memory.wf_writeAll bytes _ canonical

theorem State.applyHeld_canonical (g : Seg) (h : Held) : ImageCanonical (s.applyHeld g h) := by
  cases h with
  | imagePut k offset bytes => exact State.putImage_canonical canonical k offset bytes
  | disable | regions => exact canonical
  | segment c => exact imageCanonical_of_eq canonical (State.onSeg_image ..)

theorem State.completeWaiting_canonical (g : Seg) : ImageCanonical (s.completeWaiting g) := by
  rcases State.completeWaiting_cases s g with ⟨h, -, equal⟩ | ⟨-, equal⟩
  · rw [equal]; exact State.applyHeld_canonical canonical g h
  · rwa [equal]

/-- The end of a transaction writes image memory only by a put that has waited for it (R41). -/
theorem State.endTransaction_canonical (g : Seg) (t : Txn) (cause : EndCause) (after : SegState) :
    ImageCanonical (s.endTransaction g t cause after) := by
  refine State.completeWaiting_canonical (imageCanonical_of_eq canonical ?_) g
  cases cause <;> simp

theorem State.abandon_canonical (g : Seg) (after : SegState) : ImageCanonical (s.abandon g after) := by
  cases txn : (s.seg g).txn with
  | none => rwa [State.abandon_of_unbound after txn]
  | some t =>
    rw [State.abandon_of_bound after txn]
    exact State.endTransaction_canonical (imageCanonical_of_eq canonical (by simp)) g t _ after

theorem State.endByCondition_canonical (g : Seg) (t : Txn) (cause : CommitCause) (after : SegState) :
    ImageCanonical (s.endByCondition g t cause after) := by
  unfold State.endByCondition
  split
  · exact State.endTransaction_canonical (imageCanonical_of_eq canonical (by simp)) g t _ after
  · exact State.endTransaction_canonical canonical g t _ after

theorem State.recogniseStart_canonical (g : Seg) : ImageCanonical (s.recogniseStart g) := by
  have begins := imageCanonical_of_eq canonical (State.onSeg_image s g (Segment.unbind .address))
  have ends (t : Txn) := State.endByCondition_canonical canonical g t .repeatedStart .address
  unfold State.recogniseStart
  split
  case h_1 | h_9 => exact canonical
  case h_2 | h_3 | h_4 => exact begins
  all_goals exact ends _

theorem State.recogniseStop_canonical (g : Seg) : ImageCanonical (s.recogniseStop g) := by
  have idles := imageCanonical_of_eq canonical (State.onSeg_image s g (Segment.unbind .idle))
  have ends (t : Txn) := State.endByCondition_canonical canonical g t .stop .idle
  unfold State.recogniseStop
  split
  case h_1 | h_2 | h_9 => exact canonical
  case h_3 | h_4 => exact idles
  all_goals exact ends _

theorem State.startCondition_canonical (g : Seg) : ImageCanonical (s.startCondition g) := by
  have moved (l : Lines) := imageCanonical_of_eq canonical (State.setLines_image s g l)
  unfold State.startCondition
  dsimp only
  split
  · split
    · exact moved _
    · exact State.recogniseStart_canonical (moved _) g
  · exact canonical

theorem State.stopCondition_canonical (g : Seg) : ImageCanonical (s.stopCondition g) := by
  have moved (l : Lines) := imageCanonical_of_eq canonical (State.setLines_image s g l)
  unfold State.stopCondition
  dsimp only
  split
  · split
    · exact moved _
    · exact State.recogniseStop_canonical (moved _) g
  · exact canonical

/-- A byte that is applied is one write. -/
theorem State.applyByte_canonical (k : Fin 16) (b : Byte) : ImageCanonical (s.applyByte k b) :=
  State.putImage_canonical canonical k _ [b]

theorem State.recordByte_canonical (g : Seg) (t : Txn) (applied : Bool) :
    ImageCanonical (s.recordByte g t applied) := by
  have placed (u : State) (same : u.image = s.image) (b : Byte) (t' : Txn) :
      ImageCanonical ((if applied then u.applyByte t.target b else u).acceptByte g t') := by
    have before := imageCanonical_of_eq canonical same
    refine imageCanonical_of_eq (s := if applied then u.applyByte t.target b else u) ?_ (by simp)
    split
    · exact State.applyByte_canonical before t.target b
    · exact before
  unfold State.recordByte
  dsimp only
  split
  · exact placed s rfl _ _
  · exact placed { s with pool := s.pool.reserve g } rfl _ _
  · exact imageCanonical_of_eq canonical (by simp)

theorem State.completeData_canonical (g : Seg) (t : Txn) : ImageCanonical (s.completeData g t) := by
  have lowered := imageCanonical_of_eq canonical (State.lowerClock_image s g)
  rcases State.completeData_cases s g t with equal | equal | ⟨applied, equal⟩
  · rw [equal]; exact imageCanonical_of_eq lowered (by simp)
  · rw [equal]
    exact imageCanonical_of_eq (State.applyByte_canonical lowered t.target _) (State.acceptByte_image ..)
  · rw [equal]; exact State.recordByte_canonical lowered g t applied

theorem State.tickSegment_canonical (g : Seg) : ImageCanonical (s.tickSegment g) := by
  have onSeg (f : Segment → Segment) := imageCanonical_of_eq canonical (State.onSeg_image s g f)
  unfold State.tickSegment
  split
  · split
    · exact imageCanonical_of_eq canonical (State.expireStretch_image ..)
    · exact onSeg _
  · split
    · exact canonical
    · split
      · exact State.abandon_canonical canonical g .idle
      · exact onSeg _

/-! ## Completion checks -/

theorem State.atCheck_canonical (code : Byte) {check : State → State} (checked : ImageCanonical (check s)) :
    ImageCanonical (s.atCheck code check) := by
  rcases State.atCheck_cases s code check with ⟨-, -, -, equal⟩ | equal
  · rwa [equal]
  · rwa [equal]

theorem State.checkDisable_canonical : ImageCanonical s.checkDisable := by
  have defined (k : Fin 16) : ImageCanonical (s.onEntry k (Entry.become .defined)) := canonical
  unfold State.checkDisable
  split
  · exact canonical
  split
  · exact canonical
  split
  · exact canonical
  · unfold State.disableGracefully
    split <;> exact canonical
  · unfold State.disableByForce
    dsimp only
    split
    · exact State.abandon_canonical (defined _) _ .idle
    · exact canonical

theorem State.checkImagePut_canonical : ImageCanonical s.checkImagePut := by
  unfold State.checkImagePut
  dsimp only
  split
  · exact canonical
  split
  · exact canonical
  split
  · exact canonical
  split
  · split
    · exact canonical
    · exact State.putImage_canonical canonical _ _ _
  · exact canonical

theorem State.checkSegment_canonical : ImageCanonical s.checkSegment := by
  have onSeg {u : State} (before : ImageCanonical u) (g : Seg) (f : Segment → Segment) :=
    imageCanonical_of_eq before (State.onSeg_image u g f)
  unfold State.checkSegment
  split
  · exact canonical
  split
  · split
    · exact canonical
    · exact onSeg canonical _ _
  · exact onSeg (State.abandon_canonical canonical _ .off) _ _

/-- REINIT keeps image memory but for a put that a transaction's abandonment completes (R44, R154). -/
theorem State.checkReinit_canonical : ImageCanonical s.checkReinit :=
  State.abandon_canonical (State.abandon_canonical canonical .A .off) .B .off

/-! ## Every command and every step -/

/-- Every command answers a state whose image memory is canonical. -/
theorem exec_canonical (c : Instr) : ∃ t, exec c s = .next t ∧ ImageCanonical t := by
  have unwritten (code : Byte) {check : State → State} (same : (check s).image = s.image) :=
    State.atCheck_canonical canonical code (imageCanonical_of_eq canonical same)
  cases c with
  | start g => exact ⟨_, rfl, State.startCondition_canonical canonical g⟩
  | stop g => exact ⟨_, rfl, State.stopCondition_canonical canonical g⟩
  | addressByte g =>
    refine ⟨_, rfl, ?_⟩
    split
    · exact imageCanonical_of_eq canonical (State.completeAddress_image s g)
    · exact canonical
  | subAddressByte g =>
    refine ⟨_, rfl, ?_⟩
    split
    · split
      · exact imageCanonical_of_eq canonical (State.completeSubAddress_image ..)
      · exact canonical
    · exact canonical
  | writeDataByte g =>
    refine ⟨_, rfl, ?_⟩
    split
    · split
      · exact State.completeData_canonical canonical g _
      · exact imageCanonical_of_eq canonical (State.completeRefused_image ..)
      · exact canonical
    · exact canonical
  | writeAckBit g sda =>
    refine ⟨_, rfl, ?_⟩
    split
    · split
      · exact imageCanonical_of_eq canonical (State.takeWriteAck_image ..)
      · exact canonical
    · exact canonical
  | byteNeed g =>
    refine ⟨_, rfl, ?_⟩
    split
    · split
      · exact imageCanonical_of_eq canonical (State.takeByteNeed_image ..)
      · exact canonical
    · exact canonical
  | masterAckBit g sda =>
    refine ⟨_, rfl, ?_⟩
    split
    · split
      · exact imageCanonical_of_eq canonical (State.takeMasterAck_image ..)
      · exact canonical
    · exact canonical
  | tick =>
    refine ⟨_, rfl, ?_⟩
    split
    · exact canonical
    · exact State.tickSegment_canonical (State.tickSegment_canonical canonical .A) .B
  | abandonTimerExpiry g =>
    refine ⟨_, rfl, ?_⟩
    split
    · split
      · exact State.abandon_canonical canonical g .idle
      · exact canonical
    · exact canonical
  | stretchExpiry g =>
    refine ⟨_, rfl, ?_⟩
    split
    · split
      · exact imageCanonical_of_eq canonical (State.expireStretch_image ..)
      · exact canonical
    · exact canonical
  | define => exact ⟨_, rfl, unwritten _ (State.checkDefine_image s)⟩
  | enable => exact ⟨_, rfl, unwritten _ (State.checkEnable_image s)⟩
  | disable => exact ⟨_, rfl, State.atCheck_canonical canonical _ (State.checkDisable_canonical canonical)⟩
  | release => exact ⟨_, rfl, unwritten _ (State.checkRelease_image s)⟩
  | vtQuery => exact ⟨_, rfl, unwritten _ (State.checkVtQuery_image s)⟩
  | regions => exact ⟨_, rfl, unwritten _ (State.checkRegions_image s)⟩
  | imagePut => exact ⟨_, rfl, State.atCheck_canonical canonical _ (State.checkImagePut_canonical canonical)⟩
  | imageGet => exact ⟨_, rfl, unwritten _ (State.checkImageGet_image s)⟩
  | flush => exact ⟨_, rfl, unwritten _ (State.checkFlush_image s)⟩
  | queueConfig => exact ⟨_, rfl, unwritten _ (State.checkQueueConfig_image s)⟩
  | segment => exact ⟨_, rfl, State.atCheck_canonical canonical _ (State.checkSegment_canonical canonical)⟩
  | clearCounters => exact ⟨_, rfl, unwritten _ (State.checkClearCounters_image s)⟩
  | sleep | awake => exact ⟨_, rfl, unwritten _ rfl⟩
  | reinit => exact ⟨_, rfl, State.atCheck_canonical canonical _ (State.checkReinit_canonical canonical)⟩
  | unknown =>
    refine ⟨_, rfl, ?_⟩
    split
    · exact canonical
    · exact unwritten _ rfl
  | dataPortRead => exact ⟨_, rfl, imageCanonical_of_eq canonical (State.hostReadAccess_image ..)⟩
  | disregardedWrite => exact ⟨_, rfl, imageCanonical_of_eq canonical (State.hostWriteDisregarded_image s)⟩
  | resetAssert => exact ⟨_, rfl, Memory.wf_nil⟩
  | resetRelease => exact ⟨_, rfl, canonical⟩
  | sclEdge g edge => exact ⟨_, rfl, imageCanonical_of_eq canonical (State.clockEdge_image s g edge)⟩
  | commandIssue | abort | clearCollision | parameterWrite | pageWrite | pendingClear | intEnableWrite
  | wakeEnableWrite | emptyPopClear | pop | dataIndexWrite | answerSeqWrite | answerDataWrite | commit
  | clear => exact ⟨_, rfl, imageCanonical_of_eq canonical (State.hostWrite_image ..)⟩

end Canonical

/-- Settles O9. -/
theorem imageStaysCanonical : Obligations.ImageStaysCanonical := by
  intro s t canonical stepped
  unfold step at stepped
  split at stepped
  · cases stepped
    exact canonical
  · rename_i c rest _
    obtain ⟨u, taken, kept⟩ := exec_canonical (s := { s with pending := rest }) canonical c
    rw [taken] at stepped
    cases stepped
    exact kept

end Sys2Proof.Machine
end

section
/-! PROOFS. What the laws of the segments, of their clocks and of their quotas speak about: the segments, their
lines, their reserved cells, and the configuration that a waiting SEGMENT holds. `State.busView` takes these out
of a state, and `BusView.Move` says once all that an event can do to them. -/

namespace Sys2Proof.Machine

open Sys2Proof.Safety

/-- The segment and the configuration of a waiting SEGMENT; none for another command, or for none. -/
def awaitedConfig : Option (Seg × Held) → Option (Seg × SegConfig)
  | some (g, .segment c) => some (g, c)
  | _ => none

/-- The part of a state that the laws of the segments and of their clocks name. -/
structure BusView where
  seg : Seg → Segment
  lines : Seg → Lines
  reserved : Seg → Nat
  awaited : Option (Seg × SegConfig)
  inReset : Bool

/-- The view of a state. -/
def State.busView (s : State) : BusView where
  seg := s.seg
  lines := s.lines
  reserved := s.pool.reserved
  awaited := awaitedConfig s.engine.state.waitsFor
  inReset := s.inReset

/-- The view with one segment replaced. -/
def BusView.setSeg (v : BusView) (g : Seg) (x : Segment) : BusView :=
  { v with seg := Function.update v.seg g x }

/-- The view with the lines of one segment at new levels. -/
def BusView.setLines (v : BusView) (g : Seg) (l : Lines) : BusView :=
  { v with lines := Function.update v.lines g l }

/-- The view with another reserved count for a segment. -/
def BusView.setReserved (v : BusView) (g : Seg) (n : Nat) : BusView :=
  { v with reserved := Function.update v.reserved g n }

/-- The view with another configuration awaited, or none. -/
def BusView.wait (v : BusView) (w : Option (Seg × SegConfig)) : BusView := { v with awaited := w }

/-! ## The view after an update of the view -/

@[simp] theorem BusView.setSeg_seg_same (v : BusView) (g : Seg) (x : Segment) : (v.setSeg g x).seg g = x :=
  Function.update_self ..

theorem BusView.setSeg_seg_other (v : BusView) {g h : Seg} (x : Segment) (ne : h ≠ g) :
    (v.setSeg g x).seg h = v.seg h := Function.update_of_ne ne ..

@[simp] theorem BusView.setSeg_setSeg (v : BusView) (g : Seg) (x y : Segment) :
    (v.setSeg g x).setSeg g y = v.setSeg g y := by
  simp [BusView.setSeg]

@[simp] theorem BusView.setSeg_self (v : BusView) (g : Seg) : v.setSeg g (v.seg g) = v := by
  simp [BusView.setSeg]

@[simp] theorem BusView.setSeg_lines (v : BusView) (g : Seg) (x : Segment) : (v.setSeg g x).lines = v.lines := rfl

@[simp] theorem BusView.setSeg_reserved (v : BusView) (g : Seg) (x : Segment) :
    (v.setSeg g x).reserved = v.reserved := rfl

@[simp] theorem BusView.setLines_seg (v : BusView) (g : Seg) (l : Lines) : (v.setLines g l).seg = v.seg := rfl

@[simp] theorem BusView.setLines_lines_same (v : BusView) (g : Seg) (l : Lines) : (v.setLines g l).lines g = l :=
  Function.update_self ..

theorem BusView.setLines_lines_other (v : BusView) {g h : Seg} (l : Lines) (ne : h ≠ g) :
    (v.setLines g l).lines h = v.lines h := Function.update_of_ne ne ..

@[simp] theorem BusView.setLines_self (v : BusView) (g : Seg) : v.setLines g (v.lines g) = v := by
  simp [BusView.setLines]

@[simp] theorem BusView.setReserved_seg (v : BusView) (g : Seg) (n : Nat) : (v.setReserved g n).seg = v.seg := rfl

@[simp] theorem BusView.setReserved_reserved_same (v : BusView) (g : Seg) (n : Nat) :
    (v.setReserved g n).reserved g = n := Function.update_self ..

theorem BusView.setReserved_reserved_other (v : BusView) {g h : Seg} (n : Nat) (ne : h ≠ g) :
    (v.setReserved g n).reserved h = v.reserved h := Function.update_of_ne ne ..

/-! ## The view after an update of the state -/

@[simp] theorem State.lowerClock_seg (s : State) (g h : Seg) : (s.lowerClock g).seg h = s.seg h :=
  State.setLines_seg ..

@[simp] theorem State.raiseClock_seg (s : State) (g h : Seg) (sda : Bool) :
    (s.raiseClock g sda).seg h = s.seg h := State.setLines_seg ..

@[simp] theorem State.onEntry_seg (s : State) (k : Fin 16) (f : Entry → Entry) (g : Seg) :
    (s.onEntry k f).seg g = s.seg g := State.setEntry_seg ..

@[simp] theorem State.busView_lines (s : State) (g : Seg) : s.busView.lines g = s.lines g := rfl

@[simp] theorem State.busView_setSeg (s : State) (g : Seg) (x : Segment) :
    (s.setSeg g x).busView = s.busView.setSeg g x := by
  have seg : (s.setSeg g x).seg = Function.update s.seg g x := by
    funext h
    simp [State.setSeg_seg, Function.update_apply]
  cases g <;> simp only [State.busView, BusView.setSeg, seg] <;> rfl

@[simp] theorem State.busView_onSeg (s : State) (g : Seg) (f : Segment → Segment) :
    (s.onSeg g f).busView = s.busView.setSeg g (f (s.seg g)) := State.busView_setSeg ..

@[simp] theorem State.busView_setLines (s : State) (g : Seg) (l : Lines) :
    (s.setLines g l).busView = s.busView.setLines g l := by
  have lines : (s.setLines g l).lines = Function.update s.lines g l := by
    funext h
    by_cases same : h = g
    · subst same; simp
    · simp [same]
  cases g <;> simp only [State.busView, BusView.setLines, lines] <;> rfl

@[simp] theorem State.busView_raiseClock (s : State) (g : Seg) (sda : Bool) :
    (s.raiseClock g sda).busView = s.busView.setLines g { scl := true, sda := sda } :=
  State.busView_setLines ..

@[simp] theorem State.busView_lowerClock (s : State) (g : Seg) :
    (s.lowerClock g).busView = s.busView.setLines g { s.lines g with scl := false } :=
  State.busView_setLines ..

@[simp] theorem State.busView_onEntry (s : State) (k : Fin 16) (f : Entry → Entry) :
    (s.onEntry k f).busView = s.busView := rfl

@[simp] theorem State.busView_post (s : State) (k : EventKind) : (s.post k).busView = s.busView := rfl

@[simp] theorem State.busView_await (s : State) (g : Seg) (h : Held) :
    (s.await g h).busView = s.busView.wait (awaitedConfig (some (g, h))) := rfl

theorem Pool.setReserved_reserved (p : Pool) (g : Seg) (n : Nat) :
    (p.setReserved g n).reserved = Function.update p.reserved g n := by
  funext h
  cases g <;> cases h <;> rfl

/-- A state whose pool has another reserved count, and whose other items of the view are those of `s`. -/
theorem State.busView_eq_setReserved {s u : State} {g : Seg} {n : Nat}
    (pool : u.pool.reserved = Function.update s.pool.reserved g n)
    (same : { u with pool := s.pool }.busView = s.busView) : u.busView = s.busView.setReserved g n := by
  rw [← same]
  simp only [State.busView, BusView.setReserved, pool]
  rfl

@[simp] theorem State.busView_discardRecords (s : State) (g : Seg) :
    (s.discardRecords g).busView = s.busView.setReserved g 0 :=
  State.busView_eq_setReserved (Pool.setReserved_reserved ..) rfl

@[simp] theorem State.busView_commitRecords (s : State) (g : Seg) (cause : CommitCause) (l : List OpenRecord) :
    (s.commitRecords g cause l).busView = s.busView.setReserved g 0 := by
  obtain ⟨index, events, equal⟩ := State.commitRecords_eq s g cause l
  rw [equal]
  exact State.busView_eq_setReserved (Pool.setReserved_reserved ..) rfl

theorem State.busView_reserve (s : State) (g : Seg) :
    { s with pool := s.pool.reserve g }.busView = s.busView.setReserved g (s.pool.reserved g + 1) :=
  State.busView_eq_setReserved (Pool.setReserved_reserved ..) rfl

/-! ## The moves of a view -/

/-- A segment with no transaction and no byte under way, which holds no line and runs no timer (R64). -/
structure Segment.AtRest (x : Segment) : Prop where
  unbound : x.txn = none
  clock : x.clock = .bits 0
  sclLow : x.sclLow = false
  stopped : x.abandonTimer = none

/-- What bus activity keeps of a segment that does not stretch: whether it is bound, its configuration and its
abandon timer; it holds SCL no more than the law of a segment has it. -/
structure Segment.GoesOn (x y : Segment) : Prop where
  flowing : x.state.request = none
  flows : y.state.request = none
  bound : y.bound = x.bound
  sclLow : y.sclLow = true → x.sclLow = true
  timer : y.abandonTimer = x.abandonTimer
  config : y.config = x.config

/-- All that one event can do to the view on segment `g`, in parts; an event is a chain of them. -/
inductive BusView.Move (v : BusView) (g : Seg) : BusView → Prop
  /-- The engine waits for another configuration, one in range, or for none (R68, R146, R147). -/
  | wait (w : Option (Seg × SegConfig)) (inRange : ∀ h c, w = some (h, c) → ConfigInRange c) :
      v.Move g (v.wait w)
  /-- The other parties move SDA. -/
  | sda (level : Bool) : v.Move g (v.setLines g { v.lines g with sda := level })
  /-- A counter changes. -/
  | count (f : Counters → Counters) : v.Move g (v.setSeg g ((v.seg g).count f))
  /-- An unbound segment passes to another state without a transaction (R52, R53). -/
  | rest (l : Lines) (y : Segment) (unbound : (v.seg g).txn = none) (rest : y.AtRest)
      (config : y.config = (v.seg g).config) : v.Move g ((v.setLines g l).setSeg g y)
  /-- A transaction ends (R64). -/
  | finish (y : Segment) (rest : y.AtRest) (config : y.config = (v.seg g).config) :
      v.Move g ((v.setSeg g y).setReserved g 0)
  /-- The segment returns to its reset state (R71, R154). -/
  | reset : v.Move g ((v.setSeg g Segment.reset).setReserved g 0)
  /-- An unbound segment takes a configuration: one in range, or the awaited one (R67, R68). -/
  | configure (c : SegConfig) (unbound : (v.seg g).txn = none)
      (source : ConfigInRange c ∨ v.awaited = some (g, c)) :
      v.Move g (v.setSeg g { v.seg g with config := c })
  /-- A cell is reserved within the quota (R77). -/
  | reserve (bound : (v.seg g).bound = true) (room : v.reserved g < (v.seg g).config.quota.toNat) :
      v.Move g (v.setReserved g (v.reserved g + 1))
  /-- Bus activity: an edge at which the segment goes on, and stays in step (R46, R65). -/
  | act (l : Lines) (y : Segment) (goesOn : (v.seg g).GoesOn y)
      (inStep : ClockInStep (v.lines g).scl (v.seg g) → ClockInStep l.scl y) :
      v.Move g ((v.setLines g l).setSeg g y.busActivity)
  /-- The abandon timer starts: the segment binds, or leaves R_STRETCH (R52, R59). -/
  | start (l : Lines) (y : Segment) (bound : y.bound = true) (flows : y.state.request = none)
      (released : SegmentLaw (v.seg g) → y.sclLow = false) (config : y.config = (v.seg g).config)
      (inStep : ClockInStep l.scl y) : v.Move g ((v.setLines g l).setSeg g y.startAbandonTimer)
  /-- A request is created: the segment stretches SCL (R59, R112). -/
  | stretch (l : Lines) (t : Txn) (r : Request) (low : l.scl = false) (emptied : t.ahead.bytes = [])
      (period : r.remaining = (v.seg g).config.stretch.toNat)
      (fresh : ∀ q, (v.seg (otherSeg g)).state.request = some q → r.sequence ≠ q.sequence) :
      v.Move g ((v.setLines g l).setSeg g ((v.seg g).stretch t r))
  /-- A tick that is not the last reaches the stretch timer (R122). -/
  | tickStretch (t : Txn) (r : Request) (state : (v.seg g).state = .rStretch t r) (more : 1 < r.remaining) :
      v.Move g (v.setSeg g ((v.seg g).enter (.rStretch t { r with remaining := r.remaining - 1 })))
  /-- A tick that is not the last reaches the abandon timer (R65). -/
  | tickTimer (n : Nat) (timer : (v.seg g).abandonTimer = some n) (more : 1 < n) :
      v.Move g (v.setSeg g { v.seg g with abandonTimer := some (n - 1) })

/-- A chain of moves, on either segment. -/
abbrev BusView.Moves : BusView → BusView → Prop := Relation.ReflTransGen fun v u => ∃ g, v.Move g u

theorem BusView.Move.moves {v u : BusView} {g : Seg} (move : v.Move g u) : v.Moves u := .single ⟨g, move⟩

/-- No move asserts or releases RESET. -/
theorem BusView.Move.inReset_eq {v u : BusView} {g : Seg} (move : v.Move g u) : u.inReset = v.inReset := by
  cases move <;> rfl

theorem BusView.Moves.inReset_eq {v u : BusView} (moves : v.Moves u) : u.inReset = v.inReset := by
  induction moves with
  | refl => rfl
  | tail _ move ih =>
    obtain ⟨g, move⟩ := move
    exact move.inReset_eq.trans ih

end Sys2Proof.Machine
end

section
/-! PROOFS. Every move of the view keeps the laws of the segments, of their configuration and of their quotas,
and every move keeps the segments in step with their clock lines. -/

namespace Sys2Proof.Machine

open Sys2Proof.Safety

/-! ## The law of one segment, by what the segment holds -/

theorem Segment.bound_eq_false_iff (x : Segment) : x.bound = false ↔ x.txn = none := by
  simp [Segment.bound]

theorem Segment.bound_of_txn {x : Segment} {t : Txn} (txn : x.txn = some t) : x.bound = true := by
  simp [Segment.bound, txn]

/-- A segment with a request is in R_STRETCH (R59). -/
theorem SegState.request_eq_some {x : SegState} {r : Request} :
    x.request = some r ↔ ∃ t, x = .rStretch t r := by
  cases x <;> simp [SegState.request]

theorem SegState.request_of_unbound {x : SegState} (unbound : x.txn = none) : x.request = none := by
  cases x <;> simp_all [SegState.txn, SegState.request]

/-- A segment with no request holds SCL not at all, and its abandon timer runs exactly while it is bound. -/
theorem segmentLaw_iff_of_flowing {x : Segment} (flowing : x.state.request = none) :
    SegmentLaw x ↔ x.sclLow = false ∧ (x.abandonTimer.isSome = true ↔ x.bound = true)
      ∧ ∀ n, x.abandonTimer = some n → 1 ≤ n := by
  have never : ∀ t r, x.state ≠ .rStretch t r := fun t r state => by
    rw [state] at flowing
    cases flowing
  simp [SegmentLaw, flowing, never]

theorem segmentLaw_iff_of_unbound {x : Segment} (unbound : x.txn = none) :
    SegmentLaw x ↔ x.sclLow = false ∧ x.abandonTimer = none := by
  rw [segmentLaw_iff_of_flowing (SegState.request_of_unbound unbound), (Segment.bound_eq_false_iff x).2 unbound]
  cases x.abandonTimer <;> simp

theorem segmentLaw_iff_of_stretched {x : Segment} {t : Txn} {r : Request} (state : x.state = .rStretch t r) :
    SegmentLaw x ↔ x.sclLow = true ∧ x.abandonTimer = none ∧ 1 ≤ r.remaining ∧ r.remaining ≤ 255
      ∧ x.expiryMemory = none ∧ t.ahead.bytes = [] := by
  cases timer : x.abandonTimer <;> simp [SegmentLaw, SegState.request, state, timer]

theorem abandonPeriod_pos {x : Segment} (config : ConfigInRange x.config) : 1 ≤ x.abandonPeriod := by
  obtain ⟨-, abandon, -⟩ := config
  have positive : 0 < x.config.abandon.toNat := Nat.pos_of_ne_zero fun zero => abandon (BitVec.eq_of_toNat_eq zero)
  unfold Segment.abandonPeriod Config.ticksPerAbandonUnit
  omega

theorem Segment.AtRest.segmentLaw {x : Segment} (rest : x.AtRest) : SegmentLaw x :=
  (segmentLaw_iff_of_unbound rest.unbound).2 ⟨rest.sclLow, rest.stopped⟩

/-- A segment at rest is in step with its clock line, whatever the level (R46). -/
theorem Segment.AtRest.inStep {x : Segment} (rest : x.AtRest) (scl : Bool) : ClockInStep scl x := by
  have unbound := rest.unbound
  have clock := rest.clock
  unfold ClockInStep
  cases state : x.state <;> simp_all [Segment.txn, SegState.txn]

theorem Segment.GoesOn.segmentLaw {x y : Segment} (goesOn : x.GoesOn y) (law : SegmentLaw x)
    (config : ConfigInRange x.config) : SegmentLaw y.busActivity := by
  have period : 1 ≤ y.abandonPeriod := abandonPeriod_pos (goesOn.config.symm ▸ config)
  rw [segmentLaw_iff_of_flowing goesOn.flowing] at law
  obtain ⟨released, runs, -⟩ := law
  refine (segmentLaw_iff_of_flowing (x := y.busActivity) goesOn.flows).2 ⟨?_, ?_, ?_⟩
  · exact Bool.eq_false_iff.2 fun low => by simpa [released] using goesOn.sclLow low
  · have bound : y.busActivity.bound = x.bound := goesOn.bound
    rw [bound, ← runs]
    simp [Segment.busActivity, goesOn.timer]
  · intro n timer
    obtain ⟨-, -, rfl⟩ := Option.map_eq_some_iff.1 timer
    exact period

/-! ## The laws of a view -/

/-- The laws of the segments, their configuration and their quotas, of a view. With them an unbound segment holds
no cell, and an awaited configuration is in range. -/
structure BusView.Lawful (v : BusView) : Prop where
  segment : ∀ g, SegmentLaw (v.seg g)
  numbers : ∀ g r q, (v.seg g).state.request = some r → (v.seg (otherSeg g)).state.request = some q →
    r.sequence ≠ q.sequence
  config : ∀ g, ConfigInRange (v.seg g).config
  quota : ∀ g, v.reserved g ≤ (v.seg g).config.quota.toNat
  unreserved : ∀ g, (v.seg g).txn = none → v.reserved g = 0
  awaited : ∀ g c, v.awaited = some (g, c) → ConfigInRange c

/-- Both segments of a view are in step with their clock lines. -/
def BusView.InStep (v : BusView) : Prop := ∀ g, ClockInStep (v.lines g).scl (v.seg g)

theorem otherSeg_ne (g : Seg) : otherSeg g ≠ g := by
  cases g <;> simp [otherSeg]

theorem otherSeg_otherSeg (g : Seg) : otherSeg (otherSeg g) = g := by
  cases g <;> rfl

theorem eq_otherSeg_of_ne {g h : Seg} (ne : h ≠ g) : h = otherSeg g := by
  cases g <;> cases h <;> simp_all [otherSeg]

theorem openRecords_of_unbound {x : Segment} (unbound : x.txn = none) : openRecords x = 0 := by
  simp [openRecords, unbound]

/-- The laws of a state give those of its view. -/
theorem State.busView_lawful {s : State} (segments : SegmentsLawful s) (quotas : QuotasKept s)
    (cells : CellsAccounted s) (waiting : WaitingLawful s) : s.busView.Lawful where
  segment g := by
    obtain ⟨lawA, lawB, -⟩ := segments
    cases g <;> assumption
  numbers g r q first second := by
    obtain ⟨-, -, numbers⟩ := segments
    cases g with
    | A => exact numbers r q first second
    | B => exact (numbers q r second first).symm
  config g := (quotas g).1
  quota g := (quotas g).2
  unreserved g unbound := by
    obtain ⟨-, cellsA, cellsB⟩ := cells
    cases g with
    | A => exact cellsA.trans (openRecords_of_unbound unbound)
    | B => exact cellsB.trans (openRecords_of_unbound unbound)
  awaited g c waits := by
    have state : s.engine.state = .waiting g (.segment c) := by
      change awaitedConfig s.engine.state.waitsFor = some (g, c) at waits
      unfold awaitedConfig at waits
      split at waits
      · rename_i waitsFor
        cases waits
        exact EngineState.waitsFor_eq_some.1 waitsFor
      · cases waits
    obtain ⟨t, -, inRange, -⟩ := waiting.1 g _ state
    exact inRange

/-- The laws of a view are those of its state. -/
theorem BusView.Lawful.toState {s : State} (law : s.busView.Lawful) : SegmentsLawful s ∧ QuotasKept s :=
  ⟨⟨law.segment .A, law.segment .B, law.numbers .A⟩, fun g => ⟨law.config g, law.quota g⟩⟩

/-! ## Every move keeps them -/

namespace BusView.Lawful

variable {v : BusView} {g : Seg}

/-- The lines do not matter to the laws. -/
theorem setLines (law : v.Lawful) (l : Lines) : (v.setLines g l).Lawful where
  segment := law.segment
  numbers := law.numbers
  config := law.config
  quota := law.quota
  unreserved := law.unreserved
  awaited := law.awaited

/-- A segment is replaced by one that keeps the law by itself, the quota and the other segment's number. -/
theorem setSeg (law : v.Lawful) {y : Segment} (own : SegmentLaw y) (config : ConfigInRange y.config)
    (quota : v.reserved g ≤ y.config.quota.toNat) (unreserved : y.txn = none → v.reserved g = 0)
    (fresh : ∀ r q, y.state.request = some r → (v.seg (otherSeg g)).state.request = some q →
      r.sequence ≠ q.sequence) : (v.setSeg g y).Lawful where
  segment h := by
    by_cases same : h = g
    · subst same; simpa using own
    · rw [setSeg_seg_other v y same]; exact law.segment h
  numbers h r q first second := by
    by_cases same : h = g
    · subst same
      rw [setSeg_seg_same] at first
      rw [setSeg_seg_other v y (otherSeg_ne h)] at second
      exact fresh r q first second
    · rw [eq_otherSeg_of_ne same] at first second
      rw [setSeg_seg_other v y (otherSeg_ne g)] at first
      rw [otherSeg_otherSeg, setSeg_seg_same] at second
      exact (fresh q r second first).symm
  config h := by
    by_cases same : h = g
    · subst same; simpa using config
    · rw [setSeg_seg_other v y same]; exact law.config h
  quota h := by
    by_cases same : h = g
    · subst same; simpa using quota
    · rw [setSeg_seg_other v y same]; exact law.quota h
  unreserved h unbound := by
    by_cases same : h = g
    · subst same; exact unreserved (by simpa using unbound)
    · rw [setSeg_seg_other v y same] at unbound; exact law.unreserved h unbound
  awaited := law.awaited

/-- The replacement keeps the configuration and has no request. -/
theorem setSeg_flowing (law : v.Lawful) {y : Segment} (own : SegmentLaw y)
    (config : y.config = (v.seg g).config) (unbound : y.txn = none → (v.seg g).txn = none)
    (flows : y.state.request = none) : (v.setSeg g y).Lawful :=
  law.setSeg own (config ▸ law.config g) (config ▸ law.quota g) (fun none => law.unreserved g (unbound none))
    fun r q request => by rw [flows] at request; cases request

/-- The reserved count changes within the quota, of a bound segment or to none. -/
theorem setReserved (law : v.Lawful) {n : Nat} (quota : n ≤ (v.seg g).config.quota.toNat)
    (unreserved : (v.seg g).txn = none → n = 0) : (v.setReserved g n).Lawful where
  segment := law.segment
  numbers := law.numbers
  config := law.config
  quota h := by
    by_cases same : h = g
    · subst same; simpa using quota
    · rw [setReserved_reserved_other v n same]; exact law.quota h
  unreserved h unbound := by
    by_cases same : h = g
    · subst same; simpa using unreserved unbound
    · rw [setReserved_reserved_other v n same]; exact law.unreserved h unbound
  awaited := law.awaited

theorem unreserve (law : v.Lawful) : (v.setReserved g 0).Lawful :=
  law.setReserved (Nat.zero_le _) fun _ => rfl

theorem setReserved_zero_setSeg (y : Segment) :
    (v.setSeg g y).setReserved g 0 = (v.setReserved g 0).setSeg g y := rfl

/-- A segment passes to a state with no transaction and its cells are settled. -/
theorem settle (law : v.Lawful) {y : Segment} (rest : y.AtRest) (config : ConfigInRange y.config) :
    ((v.setSeg g y).setReserved g 0).Lawful := by
  rw [setReserved_zero_setSeg]
  refine law.unreserve.setSeg rest.segmentLaw config (by simp) (fun _ => by simp) fun r q request => ?_
  rw [SegState.request_of_unbound rest.unbound] at request
  cases request

/-- Every move keeps the laws of the segments, their configuration and their quotas. -/
theorem move {u : BusView} (law : v.Lawful) (move : v.Move g u) : u.Lawful := by
  cases move with
  | wait w inRange => exact { law with awaited := inRange }
  | sda level => exact law.setLines _
  | count f =>
    exact law.setSeg (law.segment g) (law.config g) (law.quota g) (law.unreserved g) (law.numbers g)
  | rest l y unbound rest config =>
    exact (law.setLines l).setSeg_flowing rest.segmentLaw config (fun _ => unbound)
      (SegState.request_of_unbound rest.unbound)
  | finish y rest config => exact law.settle rest (config ▸ law.config g)
  | reset => exact law.settle ⟨rfl, rfl, rfl, rfl⟩ (by unfold ConfigInRange; decide)
  | configure c unbound source =>
    have inRange : ConfigInRange c := source.elim id fun waits => law.awaited g c waits
    exact law.setSeg (law.segment g) inRange (by rw [law.unreserved g unbound]; exact Nat.zero_le _)
      (law.unreserved g) (law.numbers g)
  | reserve bound room =>
    refine law.setReserved room fun unbound => ?_
    rw [(Segment.bound_eq_false_iff _).2 unbound] at bound
    cases bound
  | act l y goesOn =>
    refine (law.setLines l).setSeg_flowing (goesOn.segmentLaw (law.segment g) (law.config g)) goesOn.config
      (fun unbound => ?_) goesOn.flows
    rw [← Segment.bound_eq_false_iff] at unbound ⊢
    exact goesOn.bound.symm.trans unbound
  | start l y bound flows released config =>
    have positive := abandonPeriod_pos (config.symm ▸ law.config g)
    have own : SegmentLaw y.startAbandonTimer := (segmentLaw_iff_of_flowing (x := y.startAbandonTimer) flows).2
      ⟨released (law.segment g), iff_of_true rfl bound, fun n timer => by cases timer; exact positive⟩
    refine (law.setLines l).setSeg_flowing own config (fun unbound => ?_) flows
    rw [← Segment.bound_eq_false_iff] at unbound
    exact absurd (bound.symm.trans unbound) (by simp)
  | stretch l t r low emptied period fresh =>
    have positive : 1 ≤ r.remaining := by
      obtain ⟨stretch, -⟩ := law.config g
      rw [period]
      exact Nat.pos_of_ne_zero fun zero => stretch (BitVec.eq_of_toNat_eq zero)
    have small : r.remaining ≤ 255 := period ▸ Nat.le_of_lt_succ (BitVec.isLt _)
    have own : SegmentLaw ((v.seg g).stretch t r) :=
      (segmentLaw_iff_of_stretched rfl).2 ⟨rfl, rfl, positive, small, rfl, emptied⟩
    refine (law.setLines l).setSeg own (law.config g) (law.quota g) (fun unbound => by cases unbound) ?_
    rintro _ q ⟨⟩ other
    exact fresh q other
  | tickStretch t r state more =>
    obtain ⟨low, stopped, -, small, memory, ahead⟩ := (segmentLaw_iff_of_stretched state).1 (law.segment g)
    have own : SegmentLaw ((v.seg g).enter (.rStretch t { r with remaining := r.remaining - 1 })) :=
      (segmentLaw_iff_of_stretched rfl).2 ⟨low, stopped, by dsimp only; omega, by dsimp only; omega, memory, ahead⟩
    refine law.setSeg own (law.config g) (law.quota g) (fun unbound => by cases unbound) ?_
    rintro _ q ⟨⟩ other
    exact law.numbers g r q (by rw [state]; rfl) other
  | tickTimer n timer more =>
    have flowing : (v.seg g).state.request = none := by
      obtain ⟨-, runs, -⟩ := law.segment g
      simpa using (runs.1 (by simp [timer])).2
    obtain ⟨released, runs, -⟩ := (segmentLaw_iff_of_flowing flowing).1 (law.segment g)
    have own : SegmentLaw { v.seg g with abandonTimer := some (n - 1) } :=
      (segmentLaw_iff_of_flowing (x := { v.seg g with abandonTimer := some (n - 1) }) flowing).2
        ⟨released, iff_of_true rfl (runs.1 (by simp [timer])), fun m left => by cases left; omega⟩
    exact law.setSeg_flowing own rfl id flowing

theorem moves {u : BusView} (law : v.Lawful) (moves : v.Moves u) : u.Lawful := by
  induction moves with
  | refl => exact law
  | tail _ step ih =>
    obtain ⟨g, step⟩ := step
    exact ih.move step

end BusView.Lawful

namespace BusView.InStep

variable {v : BusView} {g : Seg}

/-- A segment and its lines are replaced by ones in step. -/
theorem setSeg (inStep : v.InStep) (l : Lines) {y : Segment} (own : ClockInStep l.scl y) :
    ((v.setLines g l).setSeg g y).InStep := by
  intro h
  by_cases same : h = g
  · subst same; simpa using own
  · simpa [setSeg_seg_other _ y same, setLines_lines_other v l same] using inStep h

/-- Every move keeps the segments in step. -/
theorem move {u : BusView} (inStep : v.InStep) (move : v.Move g u) : u.InStep := by
  have alone {y : Segment} (own : ClockInStep (v.lines g).scl y) : (v.setSeg g y).InStep := by
    have kept := inStep.setSeg (g := g) (v.lines g) own
    rwa [setLines_self] at kept
  cases move with
  | wait w inRange => exact inStep
  | sda level =>
    have kept := inStep.setSeg (g := g) { v.lines g with sda := level } (inStep g)
    rwa [← setLines_seg v g { v.lines g with sda := level }, setSeg_self] at kept
  | count f => exact alone (inStep g)
  | rest l y unbound rest config => exact inStep.setSeg l (rest.inStep _)
  | finish y rest config => exact alone (rest.inStep _)
  | reset => exact alone trivial
  | configure c unbound source => exact alone (inStep g)
  | reserve bound room => exact inStep
  | act l y goesOn keeps => exact inStep.setSeg l (keeps (inStep g))
  | start l y bound flows released config own => exact inStep.setSeg l own
  | stretch l t r low => exact inStep.setSeg l low
  | tickStretch t r state more =>
    have low := inStep g
    simp only [ClockInStep, state] at low
    exact alone low
  | tickTimer n timer more => exact alone (inStep g)

theorem moves {u : BusView} (inStep : v.InStep) (moves : v.Moves u) : u.InStep := by
  induction moves with
  | refl => exact inStep
  | tail _ step ih =>
    obtain ⟨g, step⟩ := step
    exact ih.move step

end BusView.InStep

end Sys2Proof.Machine
end

section
/-! PROOFS. What the events of the buses and of the Time Base do to the view: each is a chain of moves. -/

namespace Sys2Proof.Machine

open Sys2Proof.Safety

variable {s : State} {g : Seg}

/-- A state with the same view takes no move. -/
theorem State.moves_of_eq {u : State} (same : u.busView = s.busView) : s.busView.Moves u.busView := by
  rw [same]

/-- A completion ends the wait, if there was one. -/
theorem State.moves_complete (u : State) (r : ResultCode) : u.busView.Moves (u.complete r).busView :=
  (BusView.Move.wait (g := .A) none (by simp)).moves

theorem Segment.unbind_atRest {after : SegState} (free : after.txn = none) (x : Segment) :
    (x.unbind after).AtRest := ⟨free, rfl, rfl, rfl⟩

/-! ## The end of a transaction (4.7) -/

theorem State.completeWaiting_moves (unbound : (s.seg g).txn = none) :
    s.busView.Moves (s.completeWaiting g).busView := by
  rcases State.completeWaiting_cases s g with ⟨h, waits, equal⟩ | ⟨-, equal⟩
  · rw [equal]
    refine .trans ?_ (State.moves_complete _ _)
    cases h with
    | disable k => exact State.moves_of_eq rfl
    | regions k l => exact State.moves_of_eq rfl
    | imagePut k offset bytes => exact State.moves_of_eq rfl
    | segment c =>
      have awaited : s.busView.awaited = some (g, c) := by simp [State.busView, waits, EngineState.waitsFor, awaitedConfig]
      rw [State.applyHeld, State.busView_onSeg]
      exact (BusView.Move.configure c unbound (.inr awaited)).moves
  · exact State.moves_of_eq (by rw [equal])

theorem State.endTransaction_moves (s : State) (g : Seg) (t : Txn) (cause : EndCause) {after : SegState}
    (free : after.txn = none) : s.busView.Moves (s.endTransaction g t cause after).busView := by
  have finish := (BusView.Move.finish (v := s.busView) (g := g) _
    (Segment.unbind_atRest free (s.seg g)) rfl).moves
  have unbound : ((s.onSeg g (Segment.unbind after)).seg g).txn = none := by
    rw [State.onSeg, State.setSeg_seg_same]
    exact free
  cases cause with
  | commit c =>
    have view := State.busView_commitRecords (s.onSeg g (Segment.unbind after)) g c t.records
    have kept : ((s.onSeg g (Segment.unbind after)).commitRecords g c t.records).seg g
        = (s.onSeg g (Segment.unbind after)).seg g := congrArg (fun v => BusView.seg v g) view
    rw [State.busView_onSeg] at view
    exact .trans (view ▸ finish) (State.completeWaiting_moves (by rw [kept]; exact unbound))
  | abandoned =>
    have view := State.busView_discardRecords (s.onSeg g (Segment.unbind after)) g
    rw [State.busView_onSeg] at view
    exact .trans (view ▸ finish) (State.completeWaiting_moves (by rw [State.discardRecords_seg]; exact unbound))

/-- A count and its event come before an end (R62, R63). -/
theorem State.countAndPost_moves (s : State) (g : Seg) (f : Counters → Counters) (k : EventKind) :
    s.busView.Moves ((s.onSeg g (Segment.count f)).post k).busView := by
  rw [State.busView_post, State.busView_onSeg]
  exact (BusView.Move.count f).moves

theorem State.abandon_moves (s : State) (g : Seg) {after : SegState} (free : after.txn = none) :
    s.busView.Moves (s.abandon g after).busView := by
  cases txn : (s.seg g).txn with
  | none => rw [State.abandon_of_unbound after txn]
  | some t =>
    rw [State.abandon_of_bound after txn]
    exact .trans (State.countAndPost_moves ..) (State.endTransaction_moves _ g t _ free)

/-! ## START and STOP -/

theorem State.endByCondition_moves (s : State) (g : Seg) (t : Txn) (cause : CommitCause) {after : SegState}
    (free : after.txn = none) : s.busView.Moves (s.endByCondition g t cause after).busView := by
  unfold State.endByCondition
  split
  · exact .trans (State.countAndPost_moves ..) (State.endTransaction_moves _ g t _ free)
  · exact State.endTransaction_moves _ g t _ free

theorem State.unbind_moves {after : SegState} (unbound : (s.seg g).txn = none) (free : after.txn = none) :
    s.busView.Moves (s.onSeg g (Segment.unbind after)).busView := by
  have move := BusView.Move.rest (v := s.busView) (g := g) (s.lines g) _ unbound
    (Segment.unbind_atRest free (s.seg g)) rfl
  rw [← State.busView_lines, BusView.setLines_self] at move
  rw [State.busView_onSeg]
  exact move.moves

theorem State.recogniseStart_moves (s : State) (g : Seg) : s.busView.Moves (s.recogniseStart g).busView := by
  unfold State.recogniseStart
  split
  case h_1 => rfl
  case h_2 state => exact State.unbind_moves (by rw [Segment.txn, state]; rfl) rfl
  case h_3 state => exact State.unbind_moves (by rw [Segment.txn, state]; rfl) rfl
  case h_4 state => exact State.unbind_moves (by rw [Segment.txn, state]; rfl) rfl
  case h_9 => rfl
  all_goals exact State.endByCondition_moves s g _ _ rfl

theorem State.recogniseStop_moves (s : State) (g : Seg) : s.busView.Moves (s.recogniseStop g).busView := by
  unfold State.recogniseStop
  split
  case h_1 => rfl
  case h_2 => rfl
  case h_3 state => exact State.unbind_moves (by rw [Segment.txn, state]; rfl) rfl
  case h_4 state => exact State.unbind_moves (by rw [Segment.txn, state]; rfl) rfl
  case h_9 => rfl
  all_goals exact State.endByCondition_moves s g _ _ rfl

theorem State.setSda_moves (s : State) (g : Seg) (level : Bool) :
    s.busView.Moves (s.setLines g { s.lines g with sda := level }).busView := by
  rw [State.busView_setLines]
  exact (BusView.Move.sda level).moves

theorem State.startCondition_moves (s : State) (g : Seg) : s.busView.Moves (s.startCondition g).busView := by
  unfold State.startCondition
  split
  · dsimp only
    split
    · exact State.setSda_moves s g false
    · exact .trans (State.setSda_moves s g false) (State.recogniseStart_moves _ g)
  · rfl

theorem State.stopCondition_moves (s : State) (g : Seg) : s.busView.Moves (s.stopCondition g).busView := by
  unfold State.stopCondition
  split
  · dsimp only
    split
    · exact State.setSda_moves s g true
    · exact .trans (State.setSda_moves s g true) (State.recogniseStop_moves _ g)
  · rfl

/-! ## Which place in a byte a row is (R46) -/

theorem Segment.riseRow_of_stretched {x : Segment} {t : Txn} {r : Request} (state : x.state = .rStretch t r) :
    x.riseRow = .never := by
  simp only [Segment.riseRow, state]

theorem Segment.fallRow_of_stretched {x : Segment} {t : Txn} {r : Request} (state : x.state = .rStretch t r) :
    x.fallRow = .never := by
  simp only [Segment.fallRow, state]

/-- No edge is a row while the segment stretches (R59). -/
theorem Segment.flowing_of_riseRow {x : Segment} (row : x.riseRow ≠ .never) : x.state.request = none := by
  refine Option.eq_none_iff_forall_ne_some.2 fun r request => ?_
  obtain ⟨t, state⟩ := SegState.request_eq_some.1 request
  exact row (Segment.riseRow_of_stretched state)

theorem Segment.flowing_of_fallRow {x : Segment} (row : x.fallRow ≠ .never) : x.state.request = none := by
  refine Option.eq_none_iff_forall_ne_some.2 fun r request => ?_
  obtain ⟨t, state⟩ := SegState.request_eq_some.1 request
  exact row (Segment.fallRow_of_stretched state)

/-- A fall of SCL that a receiving state gives to a row of its own comes after the eighth bit (R46). -/
theorem ByteClock.receiverFallRow_eq_iff {completion row : EdgeRow} (edge : row ≠ .sclEdge) (comes : row ≠ .never)
    (c : ByteClock) : c.receiverFallRow completion = row ↔ completion = row ∧ c = .bits 8 := by
  cases c with
  | bits n => by_cases eighth : n = 8 <;> simp [ByteClock.receiverFallRow, eighth, edge.symm]
  | ack k ninth => cases ninth <;> simp [ByteClock.receiverFallRow, edge.symm, comes.symm]

/-- A fall of SCL that R_DATA gives to a row of its own ends an acknowledge clock (R57). -/
theorem ByteClock.senderFallRow_eq_iff {row : EdgeRow} (edge : row ≠ .sclEdge) (comes : row ≠ .never)
    (c : ByteClock) : c.senderFallRow = row ↔ row = .byteNeed ∧ ∃ k, c = .ack k true := by
  cases c with
  | bits n => simp [ByteClock.senderFallRow, edge.symm]
  | ack k ninth => cases ninth <;> simp [ByteClock.senderFallRow, comes.symm, eq_comm]

/-- The row that completes a byte in a receiving state. -/
def SegState.completion : SegState → EdgeRow
  | .address => .addressByte
  | .wSubaddr _ => .subAddressByte
  | .wData _ => .writeDataByte
  | .wRefusing _ => .writeDataByte
  | _ => .never

/-- A fall of SCL with a row of its own completes a received byte, or is a byte need. -/
theorem Segment.fallRow_eq_iff (x : Segment) {row : EdgeRow} (edge : row ≠ .sclEdge) (comes : row ≠ .never) :
    x.fallRow = row ↔ x.state.completion = row ∧ x.clock = .bits 8
      ∨ row = .byteNeed ∧ (∃ t, x.state = .rData t) ∧ ∃ k, x.clock = .ack k true := by
  have receives (c : EdgeRow) := x.clock.receiverFallRow_eq_iff (completion := c) edge comes
  have sends := x.clock.senderFallRow_eq_iff edge comes
  cases state : x.state <;>
    simp [Segment.fallRow, SegState.completion, state, receives, sends, edge.symm, comes.symm]

/-- ADDRESS_BYTE is the fall of SCL after the eighth bit in ADDRESS (R52). -/
theorem Segment.fallRow_eq_addressByte (x : Segment) :
    x.fallRow = .addressByte ↔ x.state = .address ∧ x.clock = .bits 8 := by
  rw [x.fallRow_eq_iff (by simp) (by simp)]
  cases x.state <;> simp [SegState.completion]

/-- SUB_ADDRESS_BYTE is the fall of SCL after the eighth bit in W_SUBADDR (R54). -/
theorem Segment.fallRow_eq_subAddressByte (x : Segment) :
    x.fallRow = .subAddressByte ↔ (∃ t, x.state = .wSubaddr t) ∧ x.clock = .bits 8 := by
  rw [x.fallRow_eq_iff (by simp) (by simp)]
  cases x.state <;> simp [SegState.completion]

/-- WRITE_DATA_BYTE is the fall of SCL after the eighth bit in W_DATA and W_REFUSING (R55, R56). -/
theorem Segment.fallRow_eq_writeDataByte (x : Segment) :
    x.fallRow = .writeDataByte ↔ (∃ t, x.state = .wData t ∨ x.state = .wRefusing t) ∧ x.clock = .bits 8 := by
  rw [x.fallRow_eq_iff (by simp) (by simp)]
  cases x.state <;> simp [SegState.completion]

/-- BYTE_NEED is the fall of SCL that ends an acknowledge clock in R_DATA (R57). -/
theorem Segment.fallRow_eq_byteNeed (x : Segment) :
    x.fallRow = .byteNeed ↔ (∃ t, x.state = .rData t) ∧ ∃ k, x.clock = .ack k true := by
  rw [x.fallRow_eq_iff (by simp) (by simp)]
  cases x.state <;> simp [SegState.completion]

/-- Where the segment takes bits the row of a rising edge is that of its place in the byte (R46). -/
theorem Segment.riseRow_of_takesBits {x : Segment} (takes : x.state.takesBits = true) :
    x.riseRow = x.clock.riseRow := by
  cases state : x.state <;> simp_all [Segment.riseRow, SegState.takesBits]

/-- Only a segment that takes bits gives a rising edge to a row of its own. -/
theorem Segment.takesBits_of_riseRow {x : Segment} (own : x.riseRow ≠ .sclEdge) (comes : x.riseRow ≠ .never) :
    x.state.takesBits = true := by
  cases state : x.state <;> simp_all [Segment.riseRow, SegState.takesBits]

theorem ByteClock.riseRow_eq_writeAckBit (c : ByteClock) : c.riseRow = .writeAckBit ↔ c = .ack .dataAcked false := by
  cases c with
  | bits n => by_cases more : n < 8 <;> simp [ByteClock.riseRow, more]
  | ack k ninth => cases ninth <;> cases k <;> simp [ByteClock.riseRow]

theorem ByteClock.riseRow_eq_masterAckBit (c : ByteClock) :
    c.riseRow = .masterAckBit ↔ c = .ack .transmitted false := by
  cases c with
  | bits n => by_cases more : n < 8 <;> simp [ByteClock.riseRow, more]
  | ack k ninth => cases ninth <;> cases k <;> simp [ByteClock.riseRow]

/-- WRITE_ACK_BIT is the ninth rising edge after an acknowledged data byte (R55). -/
theorem Segment.riseRow_eq_writeAckBit (x : Segment) :
    x.riseRow = .writeAckBit ↔ x.state.takesBits = true ∧ x.clock = .ack .dataAcked false := by
  constructor
  · intro row
    have takes := Segment.takesBits_of_riseRow (x := x) (by simp [row]) (by simp [row])
    rw [Segment.riseRow_of_takesBits takes, ByteClock.riseRow_eq_writeAckBit] at row
    exact ⟨takes, row⟩
  · rintro ⟨takes, clock⟩
    rw [Segment.riseRow_of_takesBits takes, ByteClock.riseRow_eq_writeAckBit, clock]

/-- MASTER_ACK_BIT is the ninth rising edge after a transmitted byte (R58). -/
theorem Segment.riseRow_eq_masterAckBit (x : Segment) :
    x.riseRow = .masterAckBit ↔ x.state.takesBits = true ∧ x.clock = .ack .transmitted false := by
  constructor
  · intro row
    have takes := Segment.takesBits_of_riseRow (x := x) (by simp [row]) (by simp [row])
    rw [Segment.riseRow_of_takesBits takes, ByteClock.riseRow_eq_masterAckBit] at row
    exact ⟨takes, row⟩
  · rintro ⟨takes, clock⟩
    rw [Segment.riseRow_of_takesBits takes, ByteClock.riseRow_eq_masterAckBit, clock]

/-! ## Edges that are no other row -/

/-- The acknowledge clocks that a state can be in (R46). -/
def SegState.follows (state : SegState) (k : AckKind) : Bool :=
  match state with
  | .wSubaddr _ => k == .address
  | .wData _ => k == .subAddress || k == .dataAcked
  | .wRefusing _ => k == .dataRefused
  | .rData _ => k == .address || k == .transmitted
  | _ => false

/-- A place in a byte that fits a state which takes bits, at a level of its clock. -/
def ByteClock.Fits (state : SegState) (scl : Bool) : ByteClock → Prop
  | .bits n => n ≤ 8 ∧ (n = 8 → scl = true)
  | .ack k ninth => state.follows k = true ∧ scl = ninth

/-- Being in step, in one form for every state that takes bits (R46). -/
theorem clockInStep_iff {x : Segment} (takes : x.state.takesBits = true) {scl : Bool} :
    ClockInStep scl x ↔ x.clock.Fits x.state scl := by
  unfold ClockInStep
  cases clock : x.clock <;> cases state : x.state <;>
    simp_all [ByteClock.Fits, SegState.takesBits, SegState.follows]

/-- A segment that takes no bits and does not stretch is in step at every level. -/
theorem clockInStep_of_not_takesBits {x : Segment} (takes : x.state.takesBits = false)
    (flowing : x.state.request = none) (scl : Bool) : ClockInStep scl x := by
  cases state : x.state <;> simp_all [ClockInStep, SegState.takesBits, SegState.request]

theorem SegState.takesBits_iff (x : SegState) :
    x.takesBits = true ↔ x.completion ≠ .never ∨ ∃ t, x = .rData t := by
  cases x <;> simp [SegState.takesBits, SegState.completion]

theorem Segment.takeRise_of_not_takesBits {x : Segment} (takes : x.state.takesBits = false) (line : Bool) :
    x.takeRise line = x := by
  simp [Segment.takeRise, takes]

/-- A rising edge samples a bit (R46). -/
theorem Segment.takeRise_of_bits {x : Segment} {n : Nat} (takes : x.state.takesBits = true)
    (clock : x.clock = .bits n) (line : Bool) :
    x.takeRise line = { x with clock := .bits (n + 1), shift := x.shift.shiftConcat line } := by
  simp [Segment.takeRise, takes, clock]

/-- A rising edge takes the ninth place of an acknowledge clock (R46). -/
theorem Segment.takeRise_of_ack {x : Segment} {k : AckKind} {ninth : Bool} (takes : x.state.takesBits = true)
    (clock : x.clock = .ack k ninth) (line : Bool) : x.takeRise line = { x with clock := .ack k true } := by
  simp [Segment.takeRise, takes, clock]

theorem Segment.takeFall_of_not_takesBits {x : Segment} (takes : x.state.takesBits = false) :
    x.takeFall = x := by
  cases state : x.state <;> simp_all [Segment.takeFall, SegState.takesBits]

theorem Segment.fall_of_receiving {x : Segment} (receives : x.state.completion ≠ .never) :
    x.takeFall = x.settle ∧ x.fallRow = x.clock.receiverFallRow x.state.completion := by
  cases state : x.state <;> simp_all [Segment.takeFall, Segment.fallRow, SegState.completion]

theorem Segment.fall_of_rData {x : Segment} {t : Txn} (state : x.state = .rData t) :
    x.takeFall = x.presentNext ∧ x.fallRow = x.clock.senderFallRow := by
  simp [Segment.takeFall, Segment.fallRow, state]

theorem clockInStep_takeRise {x : Segment} (row : x.riseRow = .sclEdge) (line : Bool)
    (inStep : ClockInStep false x) : ClockInStep true (x.takeRise line) := by
  have flowing := Segment.flowing_of_riseRow (x := x) (by simp [row])
  cases takes : x.state.takesBits with
  | false =>
    rw [Segment.takeRise_of_not_takesBits takes]
    exact clockInStep_of_not_takesBits takes flowing true
  | true =>
    rw [Segment.riseRow_of_takesBits takes] at row
    rw [clockInStep_iff takes] at inStep
    cases clock : x.clock with
    | bits n =>
      have more : n < 8 := by
        by_contra last
        simp [clock, ByteClock.riseRow, last] at row
      rw [Segment.takeRise_of_bits takes clock]
      exact (clockInStep_iff (by exact takes)).2 ⟨more, fun _ => rfl⟩
    | ack k ninth =>
      rw [clock] at inStep
      rw [Segment.takeRise_of_ack takes clock]
      exact (clockInStep_iff (by exact takes)).2 ⟨inStep.1, rfl⟩

theorem clockInStep_takeFall {x : Segment} (row : x.fallRow = .sclEdge) (inStep : ClockInStep true x) :
    ClockInStep false x.takeFall := by
  have flowing := Segment.flowing_of_fallRow (x := x) (by simp [row])
  cases takes : x.state.takesBits with
  | false =>
    rw [Segment.takeFall_of_not_takesBits takes]
    exact clockInStep_of_not_takesBits takes flowing false
  | true =>
    rw [clockInStep_iff takes] at inStep
    have moved : x.takeFall.state.takesBits = true := by rwa [Segment.takeFall_state]
    rw [clockInStep_iff moved, Segment.takeFall_state]
    rcases (SegState.takesBits_iff _).1 takes with receives | ⟨t, sends⟩
    · obtain ⟨settles, rows⟩ := Segment.fall_of_receiving receives
      rw [settles]
      rw [rows] at row
      unfold Segment.settle
      split
      · rename_i n clock
        rw [clock] at row inStep ⊢
        refine ⟨inStep.1, fun eighth => ?_⟩
        simp only [ByteClock.receiverFallRow, eighth, if_true] at row
        cases state : x.state <;> simp [state, SegState.completion] at row
      · exact ⟨Nat.zero_le _, by simp⟩
    · obtain ⟨presents, rows⟩ := Segment.fall_of_rData sends
      rw [presents]
      rw [rows] at row
      unfold Segment.presentNext
      split
      · rename_i n clock
        rw [clock] at inStep
        split
        · exact ⟨by rw [sends]; rfl, rfl⟩
        · rename_i more
          dsimp only
          rw [clock]
          exact ⟨inStep.1, fun eighth => absurd eighth more⟩
      · rename_i k ninth clock
        cases ninth <;> simp [clock, ByteClock.senderFallRow] at row

end Sys2Proof.Machine
end

section
/-! PROOFS. The bytes, the edges and the ticks are chains of moves of the view. -/

namespace Sys2Proof.Machine

open Sys2Proof.Safety

variable {s : State} {g : Seg}

/-! ## Which edges arise -/

theorem State.fallArises_iff {row : EdgeRow} : s.fallArises g row = true ↔
    s.inReset = false ∧ (s.lines g).scl = true ∧ (s.seg g).fallRow = row := by
  simp [State.fallArises, State.canFall, and_assoc]

theorem State.riseArises_iff {row : EdgeRow} : s.riseArises g row = true ↔
    s.inReset = false ∧ (s.lines g).scl = false ∧ (s.seg g).sclLow = false ∧ (s.seg g).riseRow = row := by
  simp [State.riseArises, State.canRise, and_assoc]

/-! ## Bus activity as a move -/

/-- Bus activity of a bound segment, in another state of its transaction and at another place in the byte. -/
theorem Segment.goesOn_of_bound {x y : Segment} (flowing : x.state.request = none) (was : x.bound = true)
    (flows : y.state.request = none) (stays : y.bound = true) (sclLow : y.sclLow = true → x.sclLow = true)
    (timer : y.abandonTimer = x.abandonTimer) (config : y.config = x.config) : x.GoesOn y :=
  ⟨flowing, flows, stays.trans was.symm, sclLow, timer, config⟩

/-- Bus activity at an edge that leaves the lines at `l` and the segment at `y`. -/
theorem State.act_moves {l : Lines} {y : Segment} (goesOn : (s.seg g).GoesOn y)
    (inStep : ClockInStep (s.lines g).scl (s.seg g) → ClockInStep l.scl y) :
    s.busView.Moves ((s.busView.setLines g l).setSeg g y.busActivity) :=
  (BusView.Move.act (v := s.busView) l y goesOn inStep).moves

/-! ## Received bytes (4.4, 4.5) -/

theorem State.completeAddress_moves (state : (s.seg g).state = .address) :
    s.busView.Moves (s.completeAddress g).busView := by
  have unbound : (s.seg g).txn = none := by rw [Segment.txn, state]; rfl
  have refused : s.busView.Moves ((s.lowerClock g).onSeg g (Segment.unbind .ignore)).busView := by
    have move := BusView.Move.rest (v := s.busView) (g := g) { s.lines g with scl := false } _ unbound
      (Segment.unbind_atRest (after := .ignore) rfl (s.seg g)) rfl
    rw [State.busView_onSeg, State.busView_lowerClock, State.lowerClock_seg]
    exact move.moves
  unfold State.completeAddress
  rcases State.lookup_cases s g (addressBits (s.seg g).shift) with
    ⟨k, hit, -⟩ | ⟨k, closing, -⟩ | ⟨nothing, -⟩
  · have released (law : SegmentLaw (s.seg g)) : (s.seg g).sclLow = false :=
      ((segmentLaw_iff_of_unbound unbound).1 law).1
    have move := BusView.Move.start (v := s.busView) (g := g) { s.lines g with scl := false }
      (((s.seg g).enter (boundState (newTxn k (s.seg g).shift))).beginAck .address true)
    have bound : ∀ t, (boundState t).txn = some t ∧ (boundState t).request = none
        ∧ (boundState t).takesBits = true ∧ (boundState t).follows .address = true := fun t => by
      unfold boundState
      split <;> exact ⟨rfl, rfl, rfl, rfl⟩
    obtain ⟨txn, flows, takes, follows⟩ := bound (newTxn k (s.seg g).shift)
    simp only [hit, State.busView_onSeg, State.busView_lowerClock, State.lowerClock_seg]
    exact (move (Segment.bound_of_txn txn) flows released rfl
      ((clockInStep_iff (by exact takes)).2 ⟨follows, rfl⟩)).moves
  · simpa only [closing] using refused
  · simpa only [nothing] using refused

theorem State.completeSubAddress_moves {t : Txn} (state : (s.seg g).state = .wSubaddr t) :
    s.busView.Moves (s.completeSubAddress g t).busView := by
  have goesOn : (s.seg g).GoesOn (((s.seg g).enter (.wData t)).beginAck .subAddress true) :=
    Segment.goesOn_of_bound (by rw [state]; rfl) (by rw [Segment.bound, Segment.txn, state]; rfl) rfl rfl id rfl
      rfl
  have move := State.act_moves (l := { s.lines g with scl := false }) goesOn fun _ => ⟨rfl, rfl⟩
  unfold State.completeSubAddress
  rwa [State.busView_onSeg, State.busView_onEntry, State.busView_lowerClock, State.onEntry_seg,
    State.lowerClock_seg]

section Data

variable {u : State} {t : Txn} (bound : (s.seg g).bound = true) (flowing : (s.seg g).state.request = none)
  (lowered : u.busView = s.busView.setLines g { s.lines g with scl := false })
include bound flowing lowered

/-- A data byte is acknowledged, with the clock lowered before (R55). -/
theorem State.acceptByte_moves (t' : Txn) : s.busView.Moves (u.acceptByte g t').busView := by
  have seg : u.seg g = s.seg g := congrArg (fun v => BusView.seg v g) lowered
  have goesOn : (s.seg g).GoesOn (((s.seg g).enter (.wData t')).beginAck .dataAcked true) :=
    Segment.goesOn_of_bound flowing bound rfl rfl id rfl rfl
  have move := State.act_moves (l := { s.lines g with scl := false }) goesOn fun _ => ⟨rfl, rfl⟩
  rwa [State.acceptByte, State.busView_onSeg, lowered, seg]

/-- A data byte is refused, with the clock lowered before (R55, R56). -/
theorem State.refuseByte_moves (t' : Txn) : s.busView.Moves (u.refuseByte g t').busView := by
  have seg : u.seg g = s.seg g := congrArg (fun v => BusView.seg v g) lowered
  have goesOn : (s.seg g).GoesOn
      ((((s.seg g).enter (.wRefusing t')).beginAck .dataRefused false).count Counters.countRefused) :=
    Segment.goesOn_of_bound flowing bound rfl rfl id rfl rfl
  have move := State.act_moves (l := { s.lines g with scl := false }) goesOn fun _ => ⟨rfl, rfl⟩
  rwa [State.refuseByte, State.busView_onSeg, lowered, seg]

/-- A data byte that must be recorded is acknowledged, in the last cell or in a newly reserved one, or refused by
the pool (R77, R80). -/
theorem State.recordByte_moves (t : Txn) (applied : Bool) : s.busView.Moves (u.recordByte g t applied).busView := by
  have seg : u.seg g = s.seg g := congrArg (fun v => BusView.seg v g) lowered
  have written (w : State) (k : Fin 16) (b : Byte) : (if applied then w.applyByte k b else w).busView = w.busView := by
    cases applied <;> rfl
  unfold State.recordByte
  dsimp only
  rcases State.recording_cases u g t with ⟨place, -⟩ | ⟨place, grants⟩ | ⟨place, -⟩
  · simp only [place]
    exact State.acceptByte_moves bound flowing ((written ..).trans lowered) _
  · have reserved : u.pool.reserved g = s.pool.reserved g := congrArg (fun v => BusView.reserved v g) lowered
    have room : s.pool.reserved g < (s.seg g).config.quota.toNat := by
      rw [← reserved, ← seg]
      exact ((Pool.grants_iff ..).1 grants).2
    let granted : State := { s with pool := s.pool.reserve g }
    have reserve : s.busView.Moves granted.busView := by
      rw [State.busView_reserve]
      exact (BusView.Move.reserve (v := s.busView) bound room).moves
    have same : granted.seg g = s.seg g := by cases g <;> rfl
    have view : { u with pool := u.pool.reserve g }.busView
        = granted.busView.setLines g { granted.lines g with scl := false } := by
      rw [State.busView_reserve, State.busView_reserve, lowered, reserved]
      cases g <;> rfl
    simp only [place]
    exact reserve.trans (State.acceptByte_moves (s := granted) (by rwa [same]) (by rwa [same])
      ((written ..).trans view) _)
  · simp only [place]
    exact State.refuseByte_moves bound flowing lowered _

end Data

theorem State.completeData_moves {t : Txn} (state : (s.seg g).state = .wData t) :
    s.busView.Moves (s.completeData g t).busView := by
  have bound : (s.seg g).bound = true := by rw [Segment.bound, Segment.txn, state]; rfl
  have flowing : (s.seg g).state.request = none := by rw [state]; rfl
  have lowered := State.busView_lowerClock s g
  rcases State.completeData_cases s g t with equal | equal | ⟨applied, equal⟩
  · rw [equal]; exact State.refuseByte_moves bound flowing lowered _
  · rw [equal]; exact State.acceptByte_moves (u := (s.lowerClock g).applyByte t.target _) bound flowing lowered _
  · rw [equal]; exact State.recordByte_moves bound flowing lowered t applied

theorem State.completeRefused_moves {t : Txn} (state : (s.seg g).state = .wRefusing t) :
    s.busView.Moves (s.completeRefused g t).busView :=
  State.refuseByte_moves (by rw [Segment.bound, Segment.txn, state]; rfl) (by rw [state]; rfl)
    (State.busView_lowerClock s g) t

/-! ## Acknowledge bits (4.5, 4.6) -/

/-- The ninth rising edge of a byte leaves a fitting place fitting. -/
theorem clockInStep_ninth {x : Segment} {k : AckKind} (takes : x.state.takesBits = true)
    (clock : x.clock = .ack k false) (inStep : ClockInStep false x) :
    ClockInStep true { x with clock := .ack k true } := by
  rw [clockInStep_iff takes, clock] at inStep
  exact (clockInStep_iff (by exact takes)).2 ⟨inStep.1, rfl⟩

theorem State.takeWriteAck_moves (arises : s.riseArises g .writeAckBit = true) (t : Txn) (sda : Bool) :
    s.busView.Moves (s.takeWriteAck g t sda).busView := by
  obtain ⟨-, low, -, row⟩ := State.riseArises_iff.1 arises
  obtain ⟨takes, clock⟩ := (Segment.riseRow_eq_writeAckBit _).1 row
  have flowing := Segment.flowing_of_riseRow (x := s.seg g) (by simp [row])
  have goesOn : (s.seg g).GoesOn { s.seg g with clock := .ack .dataAcked true } :=
    ⟨flowing, flowing, rfl, id, rfl, rfl⟩
  have move := State.act_moves (l := { scl := true, sda := sda }) goesOn fun inStep =>
    clockInStep_ninth takes clock (low ▸ inStep)
  unfold State.takeWriteAck
  rwa [State.busView_onSeg, State.busView_onEntry, State.busView_raiseClock, State.onEntry_seg,
    State.raiseClock_seg]

theorem State.takeMasterAck_moves (arises : s.riseArises g .masterAckBit = true) {t : Txn}
    (txn : (s.seg g).txn = some t) (sda : Bool) : s.busView.Moves (s.takeMasterAck g t sda).busView := by
  obtain ⟨-, -, -, row⟩ := State.riseArises_iff.1 arises
  have flowing := Segment.flowing_of_riseRow (x := s.seg g) (by simp [row])
  have move {after : SegState} (bound : after.txn = some t) (flows : after.request = none)
      (inStep : ClockInStep true { s.seg g with state := after, clock := .ack .transmitted true }) :=
    State.act_moves (s := s) (g := g) (l := { scl := true, sda := sda })
      (y := { s.seg g with state := after, clock := .ack .transmitted true })
      (Segment.goesOn_of_bound flowing (Segment.bound_of_txn txn) flows
        (Segment.bound_of_txn bound) id rfl rfl) fun _ => inStep
  unfold State.takeMasterAck
  rw [State.busView_onSeg, State.busView_onEntry, State.busView_raiseClock, State.onEntry_seg,
    State.raiseClock_seg]
  cases s.sdaLine g sda with
  | true => exact move (after := .rDone t) rfl rfl trivial
  | false => exact move (after := .rData t) rfl rfl ⟨.inr rfl, rfl⟩

/-! ## Byte needs (R57, R110) -/

/-- A new request stretches the segment, for its stretch timeout and with a number of its own (R112, R113). -/
theorem State.busView_createRequest (s : State) (g : Seg) (t : Txn) (position : Byte) :
    ∃ r : Request, r.remaining = (s.seg g).config.stretch.toNat
      ∧ (∀ q, (s.seg (otherSeg g)).state.request = some q → r.sequence ≠ q.sequence)
      ∧ (s.createRequest g t position).busView = s.busView.setSeg g ((s.seg g).stretch t r) :=
  ⟨{ sequence := s.nextSequence g, target := t.target, sub := (s.entry t.target).pointer, position := position,
      remaining := (s.seg g).config.stretch.toNat }, rfl, State.nextSequence_ne s g, State.busView_onSeg ..⟩

theorem State.takeByteNeed_moves {t : Txn} (state : (s.seg g).state = .rData t) :
    s.busView.Moves (s.takeByteNeed g t).busView := by
  let edge := (s.lowerClock g).onSeg g Segment.busActivity
  have view : edge.busView =
      (s.busView.setLines g { s.lines g with scl := false }).setSeg g (s.seg g).busActivity := by
    simp [edge]
  have seg : edge.seg g = (s.seg g).busActivity := by simp [edge, State.onSeg]
  have sends {y : Segment} (t' : Txn) (b : Byte) (config : y.config = (s.seg g).config)
      (timer : y.abandonTimer = (s.seg g).abandonTimer) :
      s.busView.Moves (edge.busView.setSeg g (y.transmit t' b).busActivity) := by
    have move := State.act_moves (s := s) (g := g) (l := { s.lines g with scl := false }) (y := y.transmit t' b)
      (Segment.goesOn_of_bound (by rw [state]; rfl) (by rw [Segment.bound, Segment.txn, state]; rfl) rfl rfl
        (by simp [Segment.transmit]) timer config) fun _ => ⟨Nat.zero_le _, by simp⟩
    rwa [view, BusView.setSeg_setSeg]
  unfold State.takeByteNeed
  rcases State.needByte_cases edge g t with ⟨ahead, b, equal⟩ | ⟨b, equal⟩ | equal
  · rw [equal, State.busView_onSeg, seg]
    exact sends (y := s.seg g) _ b rfl rfl
  · rw [equal, State.busView_post, State.busView_onSeg, seg]
    exact sends (y := (s.seg g).count Counters.countFilled) _ b rfl rfl
  · have other : edge.seg (otherSeg g) = s.seg (otherSeg g) := by
      simp [edge, State.onSeg, otherSeg_ne]
    obtain ⟨r, period, fresh, stretched⟩ := State.busView_createRequest edge g
      { t with position := saturatingInc t.position, ahead := ReadAhead.empty } t.position
    rw [seg] at period stretched
    rw [other] at fresh
    rw [equal, stretched, view, BusView.setSeg_setSeg]
    exact (BusView.Move.stretch (v := s.busView) { s.lines g with scl := false } _ r rfl rfl period fresh).moves

/-! ## Edges of SCL (R45 to R48) -/

theorem Segment.goesOn_takeRise {x : Segment} (flowing : x.state.request = none) (line : Bool) :
    x.GoesOn (x.takeRise line) := by
  unfold Segment.takeRise
  split
  · split <;> exact ⟨flowing, flowing, rfl, id, rfl, rfl⟩
  · exact ⟨flowing, flowing, rfl, id, rfl, rfl⟩

theorem Segment.goesOn_takeFall {x : Segment} (flowing : x.state.request = none) : x.GoesOn x.takeFall := by
  have same : x.GoesOn x := ⟨flowing, flowing, rfl, id, rfl, rfl⟩
  have settles : x.GoesOn x.settle := by
    unfold Segment.settle
    split <;> exact ⟨flowing, flowing, rfl, id, rfl, rfl⟩
  have presents : x.GoesOn x.presentNext := by
    unfold Segment.presentNext
    split
    · split <;> exact ⟨flowing, flowing, rfl, id, rfl, rfl⟩
    · exact same
  unfold Segment.takeFall
  split <;> assumption

theorem State.clockEdge_moves (s : State) (g : Seg) (edge : ClockEdge) (awake : s.inReset = false) :
    s.busView.Moves (s.clockEdge g edge).busView := by
  cases edge with
  | rise sda =>
    simp only [State.clockEdge, awake, Bool.false_eq_true, if_false]
    split
    · rename_i arises
      obtain ⟨-, low, -, row⟩ := State.riseArises_iff.1 arises
      rw [State.busView_onSeg, State.busView_raiseClock, State.raiseClock_seg]
      exact State.act_moves (Segment.goesOn_takeRise (Segment.flowing_of_riseRow (by simp [row])) _)
        fun inStep => clockInStep_takeRise row _ (low ▸ inStep)
    · rfl
  | fall =>
    simp only [State.clockEdge, awake, Bool.false_eq_true, if_false]
    split
    · rename_i arises
      obtain ⟨-, high, row⟩ := State.fallArises_iff.1 arises
      rw [State.busView_onSeg, State.busView_lowerClock, State.lowerClock_seg]
      exact State.act_moves (Segment.goesOn_takeFall (Segment.flowing_of_fallRow (by simp [row])))
        fun inStep => clockInStep_takeFall row (high ▸ inStep)
    · rfl

/-! ## Ticks, and the end of a stretch (7.3, 7.5) -/

/-- A segment leaves R_STRETCH and sends a byte, with its abandon timer started (R59). -/
theorem State.resume_moves {u : State} {y : Segment} (t : Txn) (b : Byte) (config : y.config = (s.seg g).config)
    (resumed : u.busView = s.busView.setSeg g (y.transmit t b).startAbandonTimer) :
    s.busView.Moves u.busView := by
  have move := BusView.Move.start (v := s.busView) (g := g) (s.lines g) (y.transmit t b) rfl rfl (fun _ => rfl)
    config ⟨Nat.zero_le _, by simp⟩
  rw [← State.busView_lines, BusView.setLines_self] at move
  exact resumed ▸ move.moves

theorem State.deliver_moves (s : State) (g : Seg) (t : Txn) (r : Request) (bytes : List Byte) :
    s.busView.Moves (s.deliver g t r bytes).busView :=
  State.resume_moves (y := s.seg g) _ _ rfl (State.busView_onSeg ..)

theorem State.expireStretch_moves (s : State) (g : Seg) (t : Txn) (r : Request) :
    s.busView.Moves (s.expireStretch g t r).busView :=
  State.resume_moves
    (y := { (s.seg g).count Counters.countExpired with expiryMemory := some r.sequence }) _ _ rfl
    (State.busView_onSeg ..)

theorem State.tickSegment_moves (s : State) (g : Seg) : s.busView.Moves (s.tickSegment g).busView := by
  unfold State.tickSegment
  split
  · rename_i t r state
    split
    · exact State.expireStretch_moves s g t r
    · rename_i more
      rw [State.busView_onSeg]
      exact (BusView.Move.tickStretch (v := s.busView) t r state (by omega)).moves
  · split
    · rfl
    · rename_i n timer
      split
      · exact State.abandon_moves s g rfl
      · rename_i more
        rw [State.busView_onSeg]
        exact (BusView.Move.tickTimer (v := s.busView) n timer (by omega)).moves

end Sys2Proof.Machine
end

section
/-! PROOFS. The completion checks and the host accesses are chains of moves, and with them every command while
RESET is released; a step so keeps the laws of the segments (O11) and keeps them in step (O12). -/

namespace Sys2Proof.Machine

open Sys2Proof.Safety

variable {s : State}

/-! ## Completion checks -/

/-- A completion of a check that has moved nothing else. -/
theorem State.moves_of_completed {u : State} (same : u.busView = s.busView.wait none) :
    s.busView.Moves u.busView := by
  rw [same]
  exact (BusView.Move.wait (g := .A) none (by simp)).moves

theorem State.checkDefine_moves (s : State) : s.busView.Moves s.checkDefine.busView := by
  refine State.moves_of_completed ?_
  unfold State.checkDefine
  split
  · rfl
  split
  · rfl
  split
  · rfl
  split <;> rfl

theorem State.checkEnable_moves (s : State) : s.busView.Moves s.checkEnable.busView := by
  refine State.moves_of_completed ?_
  unfold State.checkEnable
  split
  · rfl
  split
  · rfl
  split <;> rfl

theorem State.checkDisable_moves (s : State) : s.busView.Moves s.checkDisable.busView := by
  unfold State.checkDisable
  split
  · exact State.moves_of_completed rfl
  split
  · exact State.moves_of_completed rfl
  split
  · exact State.moves_of_completed rfl
  · refine State.moves_of_completed ?_
    unfold State.disableGracefully
    split <;> rfl
  · rename_i k _ _ _ _
    unfold State.disableByForce
    refine .trans ?_ (State.moves_complete _ _)
    split
    · exact State.abandon_moves (s.onEntry k (Entry.become .defined)) _ rfl
    · rfl

theorem State.checkRelease_moves (s : State) : s.busView.Moves s.checkRelease.busView := by
  refine State.moves_of_completed ?_
  unfold State.checkRelease
  split
  · rfl
  split <;> rfl

theorem State.checkVtQuery_moves (s : State) : s.busView.Moves s.checkVtQuery.busView := by
  refine State.moves_of_completed ?_
  unfold State.checkVtQuery
  split
  · rfl
  split
  · rfl
  split <;> rfl

theorem State.checkRegions_moves (s : State) : s.busView.Moves s.checkRegions.busView := by
  refine State.moves_of_completed ?_
  unfold State.checkRegions
  split
  · rfl
  split
  · rfl
  split
  · rfl
  split
  · rfl
  split <;> rfl

theorem State.checkImagePut_moves (s : State) : s.busView.Moves s.checkImagePut.busView := by
  refine State.moves_of_completed ?_
  unfold State.checkImagePut
  dsimp only
  split
  · rfl
  split
  · rfl
  split
  · rfl
  split
  · split <;> rfl
  · rfl

theorem State.checkImageGet_moves (s : State) : s.busView.Moves s.checkImageGet.busView := by
  refine State.moves_of_completed ?_
  unfold State.checkImageGet
  dsimp only
  split
  · rfl
  split
  · rfl
  split <;> rfl

theorem State.checkFlush_moves (s : State) : s.busView.Moves s.checkFlush.busView := by
  refine State.moves_of_completed ?_
  unfold State.checkFlush
  split <;> rfl

theorem State.checkQueueConfig_moves (s : State) : s.busView.Moves s.checkQueueConfig.busView := by
  refine State.moves_of_completed ?_
  unfold State.checkQueueConfig
  dsimp only
  split <;> rfl

/-- An unbound segment takes values in range (R67). -/
theorem State.configure_moves {g : Seg} {c : SegConfig} (unbound : (s.seg g).txn = none) (inRange : ConfigInRange c) :
    s.busView.Moves (s.onSeg g fun x => { x with config := c }).busView := by
  rw [State.busView_onSeg]
  exact (BusView.Move.configure (v := s.busView) c unbound (.inl inRange)).moves

/-- An unbound segment passes to another state without a transaction and takes values in range (R67, R68). -/
theorem State.unbindAndConfigure_moves {g : Seg} {c : SegConfig} {after : SegState}
    (unbound : (s.seg g).txn = none) (free : after.txn = none) (inRange : ConfigInRange c) :
    s.busView.Moves (s.onSeg g fun x => { x.unbind after with config := c }).busView := by
  have still : ((s.onSeg g (Segment.unbind after)).seg g).txn = none := by
    rw [State.onSeg, State.setSeg_seg_same]
    exact free
  have moves := (State.unbind_moves unbound free).trans (State.configure_moves still inRange)
  rwa [State.onSeg, State.onSeg, State.setSeg_seg_same, State.setSeg_setSeg] at moves

/-- An abandonment leaves the segment unbound (R63, R64). -/
theorem State.abandon_unbound (s : State) (g : Seg) {after : SegState} (free : after.txn = none) :
    ((s.abandon g after).seg g).txn = none := by
  have ended (u : State) (t : Txn) : ((u.endTransaction g t .abandoned after).seg g).txn = none := by
    have settled : (((u.onSeg g (Segment.unbind after)).discardRecords g).seg g).txn = none := by
      rw [State.discardRecords_seg, State.onSeg, State.setSeg_seg_same]
      exact free
    unfold State.endTransaction
    dsimp only
    rcases State.completeWaiting_cases ((u.onSeg g (Segment.unbind after)).discardRecords g) g with
      ⟨h, -, equal⟩ | ⟨-, equal⟩
    · rw [equal, State.complete_seg]
      cases h with
      | disable k => exact settled
      | regions k l => exact settled
      | imagePut k offset bytes => exact settled
      | segment c =>
        rw [State.applyHeld, State.onSeg, State.setSeg_seg_same]
        exact settled
    · rwa [equal]
  cases txn : (s.seg g).txn with
  | none => rwa [State.abandon_of_unbound after txn]
  | some t => rw [State.abandon_of_bound after txn]; exact ended _ t

/-- Power ON takes an OFF segment to IDLE (R68). -/
theorem Segment.turnOn_of_off {x : Segment} (off : x.state = .off) (c : SegConfig) :
    x.turnOn c = { x.unbind .idle with config := c } := by
  simp only [Segment.turnOn, off]

/-- Power ON leaves any other segment in its state (R68). -/
theorem Segment.turnOn_of_not_off {x : Segment} (on : x.state ≠ .off) (c : SegConfig) :
    x.turnOn c = { x with config := c } := by
  unfold Segment.turnOn
  split
  · exact absurd (by assumption) on
  · rfl

theorem State.checkSegment_moves (s : State) : s.busView.Moves s.checkSegment.busView := by
  unfold State.checkSegment
  split
  · exact State.moves_of_completed rfl
  rename_i g on c values
  have inRange := segmentParams_inRange values
  split
  · split
    · rw [State.busView_await]
      exact (BusView.Move.wait (g := g) _ fun h d waits => by cases waits; exact inRange).moves
    · rename_i unbound
      have unbound : (s.seg g).txn = none := (Segment.bound_eq_false_iff _).1 (by simpa using unbound)
      refine .trans ?_ (State.moves_complete _ _)
      by_cases off : (s.seg g).state = .off
      · have opens : s.onSeg g (Segment.turnOn c) = s.onSeg g fun x => { x.unbind .idle with config := c } :=
          congrArg (s.setSeg g) (Segment.turnOn_of_off off c)
        rw [opens]
        exact State.unbindAndConfigure_moves unbound rfl inRange
      · have takes : s.onSeg g (Segment.turnOn c) = s.onSeg g fun x => { x with config := c } :=
          congrArg (s.setSeg g) (Segment.turnOn_of_not_off off c)
        rw [takes]
        exact State.configure_moves unbound inRange
  · exact (State.abandon_moves s g rfl).trans
      ((State.unbindAndConfigure_moves (State.abandon_unbound s g rfl) rfl inRange).trans
        (State.moves_complete _ _))

theorem State.checkClearCounters_moves (s : State) : s.busView.Moves s.checkClearCounters.busView := by
  have cleared (u : State) (g : Seg) :
      u.busView.Moves (u.onSeg g (Segment.count fun _ => Counters.zero)).busView := by
    rw [State.busView_onSeg]
    exact (BusView.Move.count _).moves
  unfold State.checkClearCounters
  split
  · exact State.moves_of_completed rfl
  · rename_i a b _
    refine .trans ?_ (State.moves_complete _ _)
    cases a <;> cases b
    · rfl
    · exact cleared s .B
    · exact cleared s .A
    · exact (cleared s .A).trans (cleared _ .B)

theorem State.checkReinit_moves (s : State) : s.busView.Moves s.checkReinit.busView := by
  let ended := (s.abandon .A .off).abandon .B .off
  have abandoned : s.busView.Moves ended.busView :=
    (State.abandon_moves s .A rfl).trans (State.abandon_moves _ .B rfl)
  refine abandoned.trans ?_
  have resets := ((BusView.Move.reset (v := ended.busView) (g := .A)).moves.trans
    (BusView.Move.reset (g := .B)).moves).trans (BusView.Move.wait (g := .A) none (by simp)).moves
  have view : s.checkReinit.busView = ((((ended.busView.setSeg .A Segment.reset).setReserved .A 0).setSeg .B
      Segment.reset).setReserved .B 0).wait none := by
    simp only [BusView.setSeg, BusView.setReserved, BusView.wait]
    have seg : s.checkReinit.seg
        = Function.update (Function.update ended.seg .A Segment.reset) .B Segment.reset := by
      funext g
      cases g <;> rfl
    have reserved : s.checkReinit.pool.reserved
        = Function.update (Function.update ended.pool.reserved .A 0) .B 0 := by
      funext g
      cases g <;> rfl
    simp only [State.busView, seg, reserved]
    rfl
  rwa [view]

theorem State.atCheck_moves (s : State) (code : Byte) {check : State → State}
    (checked : s.busView.Moves (check s).busView) : s.busView.Moves (s.atCheck code check).busView := by
  rcases State.atCheck_cases s code check with ⟨-, -, -, taken⟩ | nothing
  · rwa [taken]
  · rw [nothing]

/-! ## Host accesses -/

theorem State.abortCommand_moves (s : State) : s.busView.Moves s.abortCommand.busView := by
  unfold State.abortCommand
  split
  · rename_i h _
    refine State.moves_of_completed ?_
    cases h <;> rfl
  · rfl
  · rfl

theorem State.commitAnswer_moves (s : State) : s.busView.Moves s.commitAnswer.busView := by
  rcases State.commitAnswer_cases s with ⟨g, t, r, -, -, equal⟩ | equal
  · rw [equal]
    exact State.deliver_moves s g t r s.dru.staging
  · rw [equal]
    rfl

/-- A write to the engine that leaves what it waits for. -/
theorem State.busView_engine {e : Engine} (same : e.state.waitsFor = s.engine.state.waitsFor) :
    { s with engine := e }.busView = s.busView := by
  simp only [State.busView, same]
  rfl

theorem State.takeWrite_moves (s : State) (location : Location) (value : Byte) :
    s.busView.Moves (s.takeWrite location value).busView := by
  unfold State.takeWrite
  split
  case h_1 => exact State.moves_of_eq (State.busView_engine (Engine.issue_waitsFor value s.engine))
  case h_2 => exact State.moves_of_eq (State.busView_engine (by rw [Engine.writeStatus_state]))
  case h_12 => exact State.abortCommand_moves s
  case h_15 =>
    unfold State.writeAnswerControl
    split
    · exact State.commitAnswer_moves s
    · split <;> rfl
  case h_16 =>
    unfold State.popHead
    split <;> rfl
  case h_17 =>
    unfold State.writeUpper
    split
    case h_2 => split <;> rfl
    all_goals rfl
  all_goals rfl

theorem State.hostWrite_moves (s : State) (location : Location) (value : Byte) :
    s.busView.Moves (s.hostWrite location value).busView := by
  unfold State.hostWrite
  split
  · rfl
  · exact State.takeWrite_moves s.endRead location value

theorem State.busView_hostReadAccess (s : State) (location : Location) :
    (s.hostReadAccess location).busView = s.busView := by
  unfold State.hostReadAccess State.readSideEffect
  split
  · rfl
  · split <;> rfl

theorem State.busView_hostWriteDisregarded (s : State) : s.hostWriteDisregarded.busView = s.busView := by
  unfold State.hostWriteDisregarded
  split <;> rfl

/-! ## Every command -/

/-- While RESET is released a command other than its assertion is a chain of moves. -/
theorem exec_moves {c : Instr} (awake : s.inReset = false) (other : c ≠ .resetAssert) :
    ∃ t, exec c s = .next t ∧ s.busView.Moves t.busView := by
  cases c with
  | start g => exact ⟨_, rfl, State.startCondition_moves s g⟩
  | stop g => exact ⟨_, rfl, State.stopCondition_moves s g⟩
  | addressByte g =>
    refine ⟨_, rfl, ?_⟩
    split
    · rename_i arises
      exact State.completeAddress_moves
        (Segment.state_of_fallRow_addressByte (State.fallRow_of_fallArises arises))
    · rfl
  | subAddressByte g =>
    refine ⟨_, rfl, ?_⟩
    split
    · rename_i arises
      obtain ⟨⟨t, state⟩, -⟩ := (Segment.fallRow_eq_subAddressByte _).1 (State.fallRow_of_fallArises arises)
      simp only [Segment.txn, state, SegState.txn]
      exact State.completeSubAddress_moves state
    · rfl
  | writeDataByte g =>
    refine ⟨_, rfl, ?_⟩
    split
    · split
      · exact State.completeData_moves (by assumption)
      · exact State.completeRefused_moves (by assumption)
      · rfl
    · rfl
  | writeAckBit g sda =>
    refine ⟨_, rfl, ?_⟩
    split
    · split
      · exact State.takeWriteAck_moves (by assumption) _ sda
      · rfl
    · rfl
  | byteNeed g =>
    refine ⟨_, rfl, ?_⟩
    split
    · rename_i arises
      obtain ⟨⟨t, state⟩, -⟩ := (Segment.fallRow_eq_byteNeed _).1 (State.fallRow_of_fallArises arises)
      simp only [Segment.txn, state, SegState.txn]
      exact State.takeByteNeed_moves state
    · rfl
  | masterAckBit g sda =>
    refine ⟨_, rfl, ?_⟩
    split
    · split
      · exact State.takeMasterAck_moves (by assumption) (by assumption) sda
      · rfl
    · rfl
  | tick =>
    refine ⟨_, rfl, ?_⟩
    split
    · rfl
    · exact (State.tickSegment_moves s .A).trans (State.tickSegment_moves _ .B)
  | abandonTimerExpiry g =>
    refine ⟨_, rfl, ?_⟩
    split
    · split
      · exact State.abandon_moves s g rfl
      · rfl
    · rfl
  | stretchExpiry g =>
    refine ⟨_, rfl, ?_⟩
    split
    · split
      · exact State.expireStretch_moves s g _ _
      · rfl
    · rfl
  | define => exact ⟨_, rfl, State.atCheck_moves s _ (State.checkDefine_moves s)⟩
  | enable => exact ⟨_, rfl, State.atCheck_moves s _ (State.checkEnable_moves s)⟩
  | disable => exact ⟨_, rfl, State.atCheck_moves s _ (State.checkDisable_moves s)⟩
  | release => exact ⟨_, rfl, State.atCheck_moves s _ (State.checkRelease_moves s)⟩
  | vtQuery => exact ⟨_, rfl, State.atCheck_moves s _ (State.checkVtQuery_moves s)⟩
  | regions => exact ⟨_, rfl, State.atCheck_moves s _ (State.checkRegions_moves s)⟩
  | imagePut => exact ⟨_, rfl, State.atCheck_moves s _ (State.checkImagePut_moves s)⟩
  | imageGet => exact ⟨_, rfl, State.atCheck_moves s _ (State.checkImageGet_moves s)⟩
  | flush => exact ⟨_, rfl, State.atCheck_moves s _ (State.checkFlush_moves s)⟩
  | queueConfig => exact ⟨_, rfl, State.atCheck_moves s _ (State.checkQueueConfig_moves s)⟩
  | segment => exact ⟨_, rfl, State.atCheck_moves s _ (State.checkSegment_moves s)⟩
  | clearCounters => exact ⟨_, rfl, State.atCheck_moves s _ (State.checkClearCounters_moves s)⟩
  | sleep | awake => exact ⟨_, rfl, State.atCheck_moves s _ (State.moves_of_completed rfl)⟩
  | reinit => exact ⟨_, rfl, State.atCheck_moves s _ (State.checkReinit_moves s)⟩
  | unknown =>
    refine ⟨_, rfl, ?_⟩
    split
    · rfl
    · exact State.atCheck_moves s _ (State.moves_of_completed rfl)
  | dataPortRead => exact ⟨_, rfl, State.moves_of_eq (State.busView_hostReadAccess s _)⟩
  | disregardedWrite => exact ⟨_, rfl, State.moves_of_eq (State.busView_hostWriteDisregarded s)⟩
  | resetAssert => exact absurd rfl other
  | resetRelease =>
    refine ⟨_, rfl, State.moves_of_eq ?_⟩
    rw [← awake]
  | sclEdge g edge => exact ⟨_, rfl, State.clockEdge_moves s g edge awake⟩
  | commandIssue | abort | clearCollision | parameterWrite | pageWrite | pendingClear | intEnableWrite
  | wakeEnableWrite | emptyPopClear | pop | dataIndexWrite | answerSeqWrite | answerDataWrite | commit
  | clear => exact ⟨_, rfl, State.hostWrite_moves s _ _⟩

/-! ## RESET asserted (R183) -/

/-- Two states that differ in the levels of the lines alone. -/
def State.LinesOnly (s t : State) : Prop := ∃ a b : Lines, t = { s with linesA := a, linesB := b }

theorem State.LinesOnly.refl (s : State) : s.LinesOnly s := ⟨s.linesA, s.linesB, rfl⟩

theorem State.linesOnly_setLines (s : State) (g : Seg) (l : Lines) : s.LinesOnly (s.setLines g l) := by
  cases g
  · exact ⟨l, s.linesB, rfl⟩
  · exact ⟨s.linesA, l, rfl⟩

section InReset

variable (held : s.inReset = true)
include held

theorem State.startCondition_of_inReset (g : Seg) : s.LinesOnly (s.startCondition g) := by
  unfold State.startCondition
  split
  · exact s.linesOnly_setLines g _
  · exact .refl s

theorem State.stopCondition_of_inReset (g : Seg) : s.LinesOnly (s.stopCondition g) := by
  unfold State.stopCondition
  split
  · exact s.linesOnly_setLines g _
  · exact .refl s

theorem State.clockEdge_of_inReset (g : Seg) (edge : ClockEdge) : s.LinesOnly (s.clockEdge g edge) := by
  cases edge with
  | rise sda =>
    rw [State.clockEdge, if_pos held]
    split
    · exact s.linesOnly_setLines g _
    · exact .refl s
  | fall =>
    rw [State.clockEdge, if_pos held]
    split
    · exact s.linesOnly_setLines g _
    · exact .refl s

/-- While RESET is asserted a command other than RESET's own moves the lines and nothing else. -/
theorem exec_of_inReset {c : Instr} (assert : c ≠ .resetAssert) (release : c ≠ .resetRelease) :
    ∃ t, exec c s = .next t ∧ s.LinesOnly t := by
  have stays {u : State} (same : u = s) : s.LinesOnly u := same ▸ .refl s
  have unchecked (code : Byte) (check : State → State) : s.atCheck code check = s := by
    simp [State.atCheck, State.checkArises, held]
  cases c with
  | start g => exact ⟨_, rfl, State.startCondition_of_inReset held g⟩
  | stop g => exact ⟨_, rfl, State.stopCondition_of_inReset held g⟩
  | sclEdge g edge => exact ⟨_, rfl, State.clockEdge_of_inReset held g edge⟩
  | addressByte | subAddressByte | writeDataByte | byteNeed =>
    exact ⟨_, rfl, stays (by simp [State.fallArises, held])⟩
  | writeAckBit | masterAckBit => exact ⟨_, rfl, stays (by simp [State.riseArises, held])⟩
  | tick => exact ⟨_, rfl, stays (if_pos held)⟩
  | abandonTimerExpiry g =>
    refine ⟨_, rfl, stays ?_⟩
    split
    · simp [held]
    · rfl
  | stretchExpiry g =>
    refine ⟨_, rfl, stays ?_⟩
    split
    · simp [held]
    · rfl
  | define | enable | disable | release | vtQuery | regions | imagePut | imageGet | flush | queueConfig | segment
  | clearCounters | sleep | awake | reinit => exact ⟨_, rfl, stays (unchecked _ _)⟩
  | unknown => exact ⟨_, rfl, stays (by rw [unchecked, ite_self])⟩
  | dataPortRead => exact ⟨_, rfl, stays (if_pos held)⟩
  | disregardedWrite => exact ⟨_, rfl, stays (if_pos held)⟩
  | resetAssert => exact absurd rfl assert
  | resetRelease => exact absurd rfl release
  | commandIssue | abort | clearCollision | parameterWrite | pageWrite | pendingClear | intEnableWrite
  | wakeEnableWrite | emptyPopClear | pop | dataIndexWrite | answerSeqWrite | answerDataWrite | commit
  | clear => exact ⟨_, rfl, stays (State.hostWrite_of_inReset _ _ held)⟩

end InReset

/-! ## Every step -/

/-- With both segments in their reset state and nothing waiting the laws hold (R71). -/
theorem BusView.lawful_of_reset {v : BusView} (segments : ∀ g, v.seg g = Segment.reset)
    (reserved : ∀ g, v.reserved g = 0) (awaited : v.awaited = none) : v.Lawful where
  segment g := by rw [segments]; exact Segment.AtRest.segmentLaw ⟨rfl, rfl, rfl, rfl⟩
  numbers g r q request := by rw [segments] at request; cases request
  config g := by rw [segments]; unfold ConfigInRange; decide
  quota g := by rw [reserved]; exact Nat.zero_le _
  unreserved g _ := reserved g
  awaited g c waits := by rw [awaited] at waits; cases waits

/-- Every command answers a state in which the laws of the segments hold. -/
theorem exec_busView_lawful (law : s.busView.Lawful) (c : Instr) :
    ∃ t, exec c s = .next t ∧ t.busView.Lawful := by
  by_cases assert : c = .resetAssert
  · subst assert
    exact ⟨_, rfl, BusView.lawful_of_reset (fun g => by cases g <;> rfl) (fun g => by cases g <;> rfl) rfl⟩
  by_cases release : c = .resetRelease
  · subst release
    exact ⟨_, rfl, { law with }⟩
  cases held : s.inReset with
  | true =>
    obtain ⟨_, taken, a, b, rfl⟩ := exec_of_inReset held assert release
    exact ⟨_, taken, { law with }⟩
  | false =>
    obtain ⟨t, taken, moves⟩ := exec_moves held assert
    exact ⟨t, taken, law.moves moves⟩

/-- Settles O11: the laws are those of the view, which every command keeps. -/
theorem segmentsStayLawful : Obligations.SegmentsStayLawful := by
  intro s t segments quotas cells waiting stepped
  have law := State.busView_lawful segments quotas cells waiting
  unfold step at stepped
  split at stepped
  · cases stepped
    exact law.toState
  · rename_i c rest _
    obtain ⟨u, taken, kept⟩ := exec_busView_lawful (s := { s with pending := rest }) law c
    rw [taken] at stepped
    cases stepped
    exact kept.toState

/-- The part held in reset is in step: its segments are OFF and take no bits. -/
theorem clocksInStep_of_heldInReset (held : HeldInReset s) : ClocksInStep s := by
  intro g
  have off : s.seg g = Segment.reset := by
    rw [held]
    cases g <;> rfl
  rw [off]
  trivial

/-- What the lines do and which commands wait does not matter to the reset state. -/
theorem heldInReset_of_lines (held : HeldInReset s) (a b : Lines) (rest : List Instr) :
    HeldInReset { s with linesA := a, linesB := b, pending := rest } := by
  unfold HeldInReset at held ⊢
  rw [held]

/-- Every command keeps the segments in step, and an asserted RESET in its reset state. -/
theorem exec_inStep (inStep : ClocksInStep s) (reset : s.inReset = true → HeldInReset s) (c : Instr) :
    ∃ t, exec c s = .next t ∧ ClocksInStep t ∧ (t.inReset = true → HeldInReset t) := by
  by_cases assert : c = .resetAssert
  · subst assert
    have held : HeldInReset { State.reset with
      inReset := true, linesA := s.linesA, linesB := s.linesB, pending := s.pending } := rfl
    exact ⟨_, rfl, clocksInStep_of_heldInReset held, fun _ => held⟩
  by_cases release : c = .resetRelease
  · subst release
    exact ⟨_, rfl, inStep, fun asserted => by cases asserted⟩
  cases held : s.inReset with
  | true =>
    obtain ⟨_, taken, a, b, rfl⟩ := exec_of_inReset held assert release
    have stays := heldInReset_of_lines (reset held) a b s.pending
    exact ⟨_, taken, clocksInStep_of_heldInReset stays, fun _ => stays⟩
  | false =>
    obtain ⟨t, taken, moves⟩ := exec_moves held assert
    refine ⟨t, taken, BusView.InStep.moves (v := s.busView) inStep moves, fun asserted => ?_⟩
    have same : t.inReset = s.inReset := moves.inReset_eq
    rw [asserted, held] at same
    cases same

/-- Settles O12. The places in a byte are kept without the law of a segment: no edge is a row in R_STRETCH. -/
theorem clocksStayInStep : Obligations.ClocksStayInStep := by
  intro s t inStep _ reset stepped
  unfold step at stepped
  split at stepped
  · cases stepped
    refine ⟨inStep, fun asserted => ?_⟩
    have held := reset asserted
    unfold HeldInReset at held ⊢
    rw [held]
    rfl
  · rename_i c rest _
    obtain ⟨u, taken, kept⟩ := exec_inStep (s := { s with pending := rest }) inStep
      (fun asserted => heldInReset_of_lines (reset asserted) s.linesA s.linesB rest) c
    rw [taken] at stepped
    cases stepped
    exact kept

end Sys2Proof.Machine
end

section
/-! PROOFS. Which row of the table an edge of SCL is (4.1): an edge the lines can make is exactly one row (O13),
and a command whose event does not arise changes nothing (O60). -/

namespace Sys2Proof.Machine

open Sys2Proof.Safety

variable {s : State} {g : Seg}

/-! ## Edges that do not arise -/

theorem State.fallArises_of_low {row : EdgeRow} (low : (s.lines g).scl = false) : s.fallArises g row = false := by
  simp [State.fallArises, State.canFall, low]

theorem State.fallArises_of_other {row : EdgeRow} (other : (s.seg g).fallRow ≠ row) :
    s.fallArises g row = false := by
  simp [State.fallArises, other]

theorem State.riseArises_of_stuck {row : EdgeRow} (stuck : s.canRise g = false) : s.riseArises g row = false := by
  simp [State.riseArises, stuck]

theorem State.riseArises_of_other {row : EdgeRow} (other : (s.seg g).riseRow ≠ row) :
    s.riseArises g row = false := by
  simp [State.riseArises, other]

/-- The rows that are falling edges on a segment, each with its command. -/
def fallRows (g : Seg) : List (Instr × EdgeRow) :=
  [(.addressByte g, .addressByte), (.subAddressByte g, .subAddressByte), (.writeDataByte g, .writeDataByte),
   (.byteNeed g, .byteNeed), (.sclEdge g .fall, .sclEdge)]

/-- The rows that are rising edges on a segment, each with its command. -/
def riseRows (g : Seg) (sda : Bool) : List (Instr × EdgeRow) :=
  [(.writeAckBit g sda, .writeAckBit), (.masterAckBit g sda, .masterAckBit), (.sclEdge g (.rise sda), .sclEdge)]

/-- A falling edge that does not arise changes nothing. While RESET is asserted the line alone decides about
SCL_EDGE. -/
theorem exec_of_no_fall {c : Instr} {row : EdgeRow} (mem : (c, row) ∈ fallRows g)
    (arisesNot : s.fallArises g row = false)
    (line : row = .sclEdge → s.inReset = false ∨ (s.lines g).scl = false) :
    exec c s = .next s := by
  simp only [fallRows, List.mem_cons, List.not_mem_nil, or_false, Prod.mk.injEq] at mem
  rcases mem with ⟨rfl, rfl⟩ | ⟨rfl, rfl⟩ | ⟨rfl, rfl⟩ | ⟨rfl, rfl⟩ | ⟨rfl, rfl⟩
  · simp [exec, execAddressByte, arisesNot]
  · simp [exec, execSubAddressByte, arisesNot]
  · simp [exec, execWriteDataByte, arisesNot]
  · simp [exec, execByteNeed, arisesNot]
  · rcases line rfl with awake | low
    · simp [exec, execSclEdge, State.clockEdge, arisesNot, awake]
    · simp [exec, execSclEdge, State.clockEdge, arisesNot, State.canFall, low]

/-- A rising edge that does not arise changes nothing. While RESET is asserted the line alone decides about
SCL_EDGE. -/
theorem exec_of_no_rise {c : Instr} {row : EdgeRow} {sda : Bool} (mem : (c, row) ∈ riseRows g sda)
    (arisesNot : s.riseArises g row = false)
    (line : row = .sclEdge → s.inReset = false ∨ s.canRise g = false) :
    exec c s = .next s := by
  simp only [riseRows, List.mem_cons, List.not_mem_nil, or_false, Prod.mk.injEq] at mem
  rcases mem with ⟨rfl, rfl⟩ | ⟨rfl, rfl⟩ | ⟨rfl, rfl⟩
  · simp [exec, execWriteAckBit, arisesNot]
  · simp [exec, execMasterAckBit, arisesNot]
  · rcases line rfl with awake | stuck
    · simp [exec, execSclEdge, State.clockEdge, arisesNot, awake]
    · simp [exec, execSclEdge, State.clockEdge, arisesNot, stuck]

/-- Each command is one row. -/
theorem fallRows_injective {c d : Instr} {row : EdgeRow} (first : (c, row) ∈ fallRows g)
    (second : (d, row) ∈ fallRows g) : d = c := by
  simp only [fallRows, List.mem_cons, List.not_mem_nil, or_false, Prod.mk.injEq] at first second
  rcases first with ⟨rfl, rfl⟩ | ⟨rfl, rfl⟩ | ⟨rfl, rfl⟩ | ⟨rfl, rfl⟩ | ⟨rfl, rfl⟩ <;> simpa using second

theorem riseRows_injective {c d : Instr} {row : EdgeRow} {sda : Bool} (first : (c, row) ∈ riseRows g sda)
    (second : (d, row) ∈ riseRows g sda) : d = c := by
  simp only [riseRows, List.mem_cons, List.not_mem_nil, or_false, Prod.mk.injEq] at first second
  rcases first with ⟨rfl, rfl⟩ | ⟨rfl, rfl⟩ | ⟨rfl, rfl⟩ <;> simpa using second

/-! ## In step, every edge is a row (R46) -/

theorem SegState.follows_dataAcked (x : SegState) : x.follows .dataAcked = true ↔ ∃ t, x = .wData t := by
  cases x <;> simp [SegState.follows]

theorem SegState.follows_transmitted (x : SegState) : x.follows .transmitted = true ↔ ∃ t, x = .rData t := by
  cases x <;> simp [SegState.follows]

theorem Segment.fallRow_of_not_takesBits {x : Segment} (takes : x.state.takesBits = false)
    (flowing : x.state.request = none) : x.fallRow = .sclEdge := by
  cases state : x.state <;> simp_all [Segment.fallRow, SegState.takesBits, SegState.request]

theorem Segment.riseRow_of_not_takesBits {x : Segment} (takes : x.state.takesBits = false)
    (flowing : x.state.request = none) : x.riseRow = .sclEdge := by
  cases state : x.state <;> simp_all [Segment.riseRow, SegState.takesBits, SegState.request]

/-- In step with SCL high a segment does not stretch (R59). -/
theorem flowing_of_inStep {x : Segment} (inStep : ClockInStep true x) : x.state.request = none := by
  refine Option.eq_none_iff_forall_ne_some.2 fun r request => ?_
  obtain ⟨t, state⟩ := SegState.request_eq_some.1 request
  simp [ClockInStep, state] at inStep

/-- In step with SCL high the falling edge is a row. -/
theorem Segment.fallRow_mem_of_inStep {x : Segment} (inStep : ClockInStep true x) (g : Seg) :
    ∃ c, (c, x.fallRow) ∈ fallRows g := by
  have flowing := flowing_of_inStep inStep
  cases takes : x.state.takesBits with
  | false => exact ⟨.sclEdge g .fall, by simp [fallRows, Segment.fallRow_of_not_takesBits takes flowing]⟩
  | true =>
    rw [clockInStep_iff takes] at inStep
    rcases (SegState.takesBits_iff _).1 takes with receives | ⟨t, sends⟩
    · rw [(Segment.fall_of_receiving receives).2]
      cases clock : x.clock with
      | bits n =>
        by_cases eighth : n = 8
        · cases state : x.state <;> simp_all [fallRows, ByteClock.receiverFallRow, SegState.completion]
        · exact ⟨.sclEdge g .fall, by simp [fallRows, ByteClock.receiverFallRow, eighth]⟩
      | ack k ninth =>
        rw [clock] at inStep
        obtain ⟨-, rfl⟩ := inStep
        exact ⟨.sclEdge g .fall, by simp [fallRows, ByteClock.receiverFallRow]⟩
    · rw [(Segment.fall_of_rData sends).2]
      cases clock : x.clock with
      | bits n => exact ⟨.sclEdge g .fall, by simp [fallRows, ByteClock.senderFallRow]⟩
      | ack k ninth =>
        rw [clock] at inStep
        obtain ⟨-, rfl⟩ := inStep
        exact ⟨.byteNeed g, by simp [fallRows, ByteClock.senderFallRow]⟩

/-- In step with SCL low, and not held low, the rising edge is a row. -/
theorem Segment.riseRow_mem_of_inStep {x : Segment} (inStep : ClockInStep false x)
    (flowing : x.state.request = none) (g : Seg) (sda : Bool) : ∃ c, (c, x.riseRow) ∈ riseRows g sda := by
  cases takes : x.state.takesBits with
  | false => exact ⟨.sclEdge g (.rise sda), by simp [riseRows, Segment.riseRow_of_not_takesBits takes flowing]⟩
  | true =>
    rw [clockInStep_iff takes] at inStep
    rw [Segment.riseRow_of_takesBits takes]
    cases clock : x.clock with
    | bits n =>
      rw [clock] at inStep
      obtain ⟨few, last⟩ := inStep
      have more : n < 8 := lt_of_le_of_ne few fun eighth => by simpa using last eighth
      exact ⟨.sclEdge g (.rise sda), by simp [riseRows, ByteClock.riseRow, more]⟩
    | ack k ninth =>
      rw [clock] at inStep
      obtain ⟨-, rfl⟩ := inStep
      cases k with
      | dataAcked => exact ⟨.writeAckBit g sda, by simp [riseRows, ByteClock.riseRow]⟩
      | transmitted => exact ⟨.masterAckBit g sda, by simp [riseRows, ByteClock.riseRow]⟩
      | address | subAddress | dataRefused => exact ⟨.sclEdge g (.rise sda), by simp [riseRows, ByteClock.riseRow]⟩

/-- In step the ninth rising edge of WRITE_ACK_BIT comes in W_DATA alone (R55). -/
theorem Segment.wData_of_riseRow {x : Segment} (row : x.riseRow = .writeAckBit) (inStep : ClockInStep false x) :
    (∃ t, x.state = .wData t) ∧ x.clock = .ack .dataAcked false := by
  obtain ⟨takes, clock⟩ := (Segment.riseRow_eq_writeAckBit x).1 row
  rw [clockInStep_iff takes, clock] at inStep
  exact ⟨(SegState.follows_dataAcked _).1 inStep.1, clock⟩

/-- In step the ninth rising edge of MASTER_ACK_BIT comes in R_DATA alone (R58). -/
theorem Segment.rData_of_riseRow {x : Segment} (row : x.riseRow = .masterAckBit) (inStep : ClockInStep false x) :
    (∃ t, x.state = .rData t) ∧ x.clock = .ack .transmitted false := by
  obtain ⟨takes, clock⟩ := (Segment.riseRow_eq_masterAckBit x).1 row
  rw [clockInStep_iff takes, clock] at inStep
  exact ⟨(SegState.follows_transmitted _).1 inStep.1, clock⟩

/-! ## An edge moves its line -/

@[simp] theorem State.onSeg_lines (s : State) (g : Seg) (f : Segment → Segment) (h : Seg) :
    (s.onSeg g f).lines h = s.lines h := State.setSeg_lines ..

@[simp] theorem State.onEntry_lines (s : State) (k : Fin 16) (f : Entry → Entry) (h : Seg) :
    (s.onEntry k f).lines h = s.lines h := State.setEntry_lines ..

@[simp] theorem State.lowerClock_lines (s : State) (g : Seg) :
    (s.lowerClock g).lines g = { scl := false, sda := (s.lines g).sda } := State.setLines_lines_same ..

@[simp] theorem State.raiseClock_lines (s : State) (g : Seg) (sda : Bool) :
    (s.raiseClock g sda).lines g = { scl := true, sda := sda } := State.setLines_lines_same ..

theorem State.completeAddress_lines (s : State) (g : Seg) :
    (s.completeAddress g).lines g = { scl := false, sda := (s.lines g).sda } := by
  unfold State.completeAddress
  dsimp only
  split <;> simp

theorem State.recordByte_lines (s : State) (g : Seg) (t : Txn) (applied : Bool) :
    (s.recordByte g t applied).lines g = s.lines g := by
  have placed (u : State) (same : u.lines g = s.lines g) (b : Byte) (t' : Txn) :
      ((if applied then u.applyByte t.target b else u).acceptByte g t').lines g = s.lines g := by
    cases applied <;> simpa [State.acceptByte, State.applyByte] using same
  unfold State.recordByte
  dsimp only
  split
  · exact placed s rfl _ _
  · exact placed _ (by cases g <;> rfl) _ _
  · simp [State.refuseByte]

theorem State.completeData_lines (s : State) (g : Seg) (t : Txn) :
    (s.completeData g t).lines g = { scl := false, sda := (s.lines g).sda } := by
  rcases State.completeData_cases s g t with equal | equal | ⟨applied, equal⟩ <;> rw [equal]
  · simp [State.refuseByte]
  · simp [State.acceptByte, State.applyByte]
  · simp [State.recordByte_lines]

theorem State.needByte_lines (s : State) (g : Seg) (t : Txn) : (s.needByte g t).lines g = s.lines g := by
  rcases State.needByte_cases s g t with ⟨ahead, b, equal⟩ | ⟨b, equal⟩ | equal <;> rw [equal]
  · simp
  · simp
  · exact State.onSeg_lines s g _ g

/-- The command of a falling edge that arises in step lowers the line. -/
theorem exec_fall_lines {c : Instr} (awake : s.inReset = false) (high : (s.lines g).scl = true)
    (mem : (c, (s.seg g).fallRow) ∈ fallRows g) :
    ∃ t, exec c s = .next t ∧ t.lines g = { scl := false, sda := (s.lines g).sda } := by
  generalize row : (s.seg g).fallRow = r at mem
  have arises : s.fallArises g r = true := State.fallArises_iff.2 ⟨awake, high, row⟩
  simp only [fallRows, List.mem_cons, List.not_mem_nil, or_false, Prod.mk.injEq] at mem
  rcases mem with ⟨rfl, rfl⟩ | ⟨rfl, rfl⟩ | ⟨rfl, rfl⟩ | ⟨rfl, rfl⟩ | ⟨rfl, rfl⟩
  · exact ⟨_, congrArg Host.Outcome.next (if_pos arises), State.completeAddress_lines s g⟩
  · obtain ⟨⟨t, state⟩, -⟩ := (Segment.fallRow_eq_subAddressByte _).1 row
    refine ⟨s.completeSubAddress g t, ?_, by simp [State.completeSubAddress]⟩
    simp only [exec, execSubAddressByte, arises, if_true, Segment.txn, state, SegState.txn]
  · obtain ⟨⟨t, state | state⟩, -⟩ := (Segment.fallRow_eq_writeDataByte _).1 row
    · refine ⟨s.completeData g t, ?_, State.completeData_lines s g t⟩
      simp only [exec, execWriteDataByte, arises, if_true, state]
    · refine ⟨s.completeRefused g t, ?_, by simp [State.completeRefused, State.refuseByte]⟩
      simp only [exec, execWriteDataByte, arises, if_true, state]
  · obtain ⟨⟨t, state⟩, -⟩ := (Segment.fallRow_eq_byteNeed _).1 row
    refine ⟨s.takeByteNeed g t, ?_, by simp [State.takeByteNeed, State.needByte_lines]⟩
    simp only [exec, execByteNeed, arises, if_true, Segment.txn, state, SegState.txn]
  · refine ⟨(s.lowerClock g).onSeg g fun x => x.takeFall.busActivity, ?_, by simp⟩
    simp only [exec, execSclEdge, State.clockEdge, awake, Bool.false_eq_true, if_false, arises, if_true]

/-- The command of a rising edge that arises in step raises the line. -/
theorem exec_rise_lines {c : Instr} {sda : Bool} (awake : s.inReset = false) (rises : s.canRise g = true)
    (inStep : ClockInStep false (s.seg g)) (mem : (c, (s.seg g).riseRow) ∈ riseRows g sda) :
    ∃ t, exec c s = .next t ∧ t.lines g = { scl := true, sda := sda } := by
  generalize row : (s.seg g).riseRow = r at mem
  have arises : s.riseArises g r = true := by simp [State.riseArises, awake, rises, row]
  simp only [riseRows, List.mem_cons, List.not_mem_nil, or_false, Prod.mk.injEq] at mem
  rcases mem with ⟨rfl, rfl⟩ | ⟨rfl, rfl⟩ | ⟨rfl, rfl⟩
  · obtain ⟨⟨t, state⟩, -⟩ := Segment.wData_of_riseRow row inStep
    refine ⟨s.takeWriteAck g t sda, ?_, by simp [State.takeWriteAck]⟩
    simp only [exec, execWriteAckBit, arises, if_true, Segment.txn, state, SegState.txn]
  · obtain ⟨⟨t, state⟩, -⟩ := Segment.rData_of_riseRow row inStep
    refine ⟨s.takeMasterAck g t sda, ?_, by simp [State.takeMasterAck]⟩
    simp only [exec, execMasterAckBit, arises, if_true, Segment.txn, state, SegState.txn]
  · refine ⟨(s.raiseClock g sda).onSeg g fun x => (x.takeRise (s.sdaLine g sda)).busActivity, ?_, by simp⟩
    simp only [exec, execSclEdge, State.clockEdge, awake, Bool.false_eq_true, if_false, arises, if_true]

/-- Settles O13: in step the edge is a row of its list, and every other row of the list is another one. -/
theorem noEdgeIsLost : Obligations.NoEdgeIsLost := by
  intro s g awake inStep law onlyOne
  refine ⟨fun rises sda => ?_, fun falls => ?_⟩
  · obtain ⟨low, released⟩ : (s.lines g).scl = false ∧ (s.seg g).sclLow = false := by
      simpa [State.canRise] using rises
    have flowing : (s.seg g).state.request = none := by
      obtain ⟨stretches, -⟩ := law g
      simpa [released] using stretches
    have own : ClockInStep false (s.seg g) := low ▸ inStep g
    obtain ⟨c, mem⟩ := Segment.riseRow_mem_of_inStep own flowing g sda
    refine ⟨c, List.mem_map_of_mem (f := Prod.fst) mem, exec_rise_lines awake rises own mem, fun d other ne => ?_⟩
    obtain ⟨⟨_, row⟩, listed, rfl⟩ := List.mem_map.1 (show d ∈ (riseRows g sda).map Prod.fst from other)
    exact exec_of_no_rise listed (State.riseArises_of_other fun same =>
      ne (riseRows_injective mem (same ▸ listed))) fun _ => .inl awake
  · obtain ⟨c, mem⟩ := Segment.fallRow_mem_of_inStep (x := s.seg g) (falls ▸ inStep g) g
    refine ⟨c, List.mem_map_of_mem (f := Prod.fst) mem, exec_fall_lines awake falls mem, fun d other ne => ?_⟩
    obtain ⟨⟨_, row⟩, listed, rfl⟩ := List.mem_map.1 (show d ∈ (fallRows g).map Prod.fst from other)
    exact exec_of_no_fall listed (State.fallArises_of_other fun same =>
      ne (fallRows_injective mem (same ▸ listed))) fun _ => .inl awake

end Sys2Proof.Machine
end

section
/-! PROOFS. A command whose event does not arise changes nothing (O60). -/

namespace Sys2Proof.Machine

open Sys2Proof.Safety

variable {s : State} {g : Seg}

/-! ## Conditions (R45, R47, R59) -/

theorem exec_start_of_not_arises (arisesNot : s.startArises g = false) : exec (.start g) s = .next s := by
  simp [exec, execStart, State.startCondition, arisesNot]

theorem exec_stop_of_not_arises (arisesNot : s.stopArises g = false) : exec (.stop g) s = .next s := by
  simp [exec, execStop, State.stopCondition, arisesNot]

/-- No condition arises while SCL is low or the part holds a line. -/
theorem exec_condition_of_not_possible
    (impossible : (s.lines g).scl = false ∨ (s.seg g).sdaLow = true ∨ (s.seg g).sclLow = true) :
    exec (.start g) s = .next s ∧ exec (.stop g) s = .next s := by
  rcases impossible with h | h | h <;>
    exact ⟨exec_start_of_not_arises (by simp [State.startArises, h]),
      exec_stop_of_not_arises (by simp [State.stopArises, h])⟩

/-! ## Completion checks and expiries -/

/-- The commands that are completion checks of a code of 8.8, each with its code. -/
def checkRows : List (Byte × Instr) :=
  [(0x01, .define), (0x02, .enable), (0x03, .disable), (0x04, .release), (0x05, .vtQuery), (0x10, .regions),
   (0x11, .imagePut), (0x12, .imageGet), (0x20, .flush), (0x21, .queueConfig), (0x30, .segment),
   (0x31, .clearCounters), (0x40, .sleep), (0x41, .awake), (0x50, .reinit)]

theorem State.atCheck_of_not_running {code : Byte} (check : State → State)
    (other : s.engine.state ≠ .running ∨ s.engine.code ≠ code) : s.atCheck code check = s := by
  rcases other with h | h <;> simp [State.atCheck, State.checkArises, h]

/-- A completion check whose code is not held RUNNING changes nothing (R139). -/
theorem exec_of_not_running {p : Byte × Instr} (mem : p ∈ checkRows)
    (other : s.engine.state ≠ .running ∨ s.engine.code ≠ p.1) : exec p.2 s = .next s := by
  have taken : ∃ check, exec p.2 s = .next (s.atCheck p.1 check) := by
    simp only [checkRows, List.mem_cons, List.not_mem_nil, or_false] at mem
    rcases mem with rfl | rfl | rfl | rfl | rfl | rfl | rfl | rfl | rfl | rfl | rfl | rfl | rfl | rfl | rfl <;>
      exact ⟨_, rfl⟩
  obtain ⟨check, taken⟩ := taken
  rw [taken, State.atCheck_of_not_running check other]

theorem checkRows_codes {p : Byte × Instr} (mem : p ∈ checkRows) : p.1 ∈ commandCodes := by
  revert p
  decide

/-- UNKNOWN changes nothing where a command of 8.8 is held, or none is RUNNING (R143). -/
theorem exec_unknown_of_known (known : s.engine.state ≠ .running ∨ s.engine.code ∈ commandCodes) :
    exec .unknown s = .next s := by
  simp only [exec, execUnknown]
  split
  · rfl
  · rename_i other
    rw [State.atCheck_of_not_running _ (.inl (known.resolve_right other))]

theorem exec_abandonTimerExpiry_of_more (more : ∀ n, (s.seg g).abandonTimer = some n → 1 < n) :
    exec (.abandonTimerExpiry g) s = .next s := by
  simp only [exec, execAbandonTimerExpiry]
  split
  · rename_i n timer
    simp [more n timer]
  · rfl

theorem exec_stretchExpiry_of_more (more : ∀ r, (s.seg g).state.request = some r → 1 < r.remaining) :
    exec (.stretchExpiry g) s = .next s := by
  simp only [exec, execStretchExpiry]
  split
  · rename_i t r state
    simp [more r (by rw [state]; rfl)]
  · rfl

/-! ## Edges -/

/-- With SCL low, or held so that it cannot rise, no edge of the list of falls, or of rises, arises. -/
theorem exec_fall_of_low (low : (s.lines g).scl = false) {c : Instr} (mem : c ∈ (fallRows g).map Prod.fst) :
    exec c s = .next s := by
  obtain ⟨⟨_, row⟩, listed, rfl⟩ := List.mem_map.1 mem
  exact exec_of_no_fall listed (State.fallArises_of_low low) fun _ => .inr low

theorem exec_rise_of_stuck {sda : Bool} (stuck : s.canRise g = false) {c : Instr}
    (mem : c ∈ (riseRows g sda).map Prod.fst) : exec c s = .next s := by
  obtain ⟨⟨_, row⟩, listed, rfl⟩ := List.mem_map.1 mem
  exact exec_of_no_rise listed (State.riseArises_of_stuck stuck) fun _ => .inr stuck

/-- A falling edge that is not this row of its own is left to its row. -/
theorem exec_of_other_fall {c : Instr} {row : EdgeRow} (mem : (c, row) ∈ fallRows g) (own : row ≠ .sclEdge)
    (other : (s.seg g).fallRow ≠ row) : exec c s = .next s :=
  exec_of_no_fall mem (State.fallArises_of_other other) fun edge => absurd edge own

/-- A rising edge that is not this row of its own, while the segment is in step. -/
theorem exec_of_other_rise {c : Instr} {row : EdgeRow} {sda : Bool} (mem : (c, row) ∈ riseRows g sda)
    (own : row ≠ .sclEdge)
    (other : (s.lines g).scl = false → (s.seg g).riseRow ≠ row) : exec c s = .next s := by
  refine exec_of_no_rise mem (Bool.eq_false_iff.2 fun arises => ?_) fun edge => absurd edge own
  obtain ⟨-, low, -, same⟩ := State.riseArises_iff.1 arises
  exact other low same

/-- SCL_EDGE leaves an edge that is another row to that row. -/
theorem exec_sclEdge_of_other_fall {row : EdgeRow} (awake : s.inReset = false) (edge : (s.seg g).fallRow = row)
    (own : row ≠ .sclEdge) : exec (.sclEdge g .fall) s = .next s :=
  exec_of_no_fall (g := g) (row := .sclEdge) (by simp [fallRows]) (State.fallArises_of_other (edge ▸ own))
    fun _ => .inl awake

theorem exec_sclEdge_of_other_rise {row : EdgeRow} (sda : Bool) (awake : s.inReset = false)
    (edge : (s.seg g).riseRow = row) (own : row ≠ .sclEdge) : exec (.sclEdge g (.rise sda)) s = .next s :=
  exec_of_no_rise (g := g) (sda := sda) (row := .sclEdge) (by simp [riseRows])
    (State.riseArises_of_other (edge ▸ own)) fun _ => .inl awake

/-- Settles O60, a clause for each way in which an event does not arise. -/
theorem eventThatDoesNotAriseChangesNothing : Obligations.EventThatDoesNotAriseChangesNothing := by
  intro s g sda x unchanged rises falls endsAddress endsSubAddress endsData needsByte ninthOfWrite ninthOfRead
  have conditions (impossible : (s.lines g).scl = false ∨ x.sdaLow = true ∨ x.sclLow = true) {c : Instr}
      (mem : c ∈ [Instr.start g, .stop g]) : unchanged c := by
    obtain ⟨start, stop⟩ := exec_condition_of_not_possible impossible
    simp only [List.mem_cons, List.not_mem_nil, or_false] at mem
    rcases mem with rfl | rfl
    · exact start
    · exact stop
  have inFalls {c : Instr} {row : EdgeRow} (own : row ≠ .sclEdge) (mem : (c, row) ∈ fallRows g)
      (other : x.fallRow ≠ row) : unchanged c := exec_of_other_fall mem own other
  refine ⟨fun low c mem => ?_, fun high c mem => ?_, fun low => ?_, fun high => ?_, fun holds => ?_,
    fun holds c mem => ?_, fun no => ?_, fun no => ?_, fun no => ?_, fun no => ?_, fun inStep no => ?_,
    fun inStep no => ?_, fun awake => ⟨fun other => ?_, fun other => ?_⟩, fun p mem => ⟨fun other => ?_, fun known => ?_⟩,
    exec_abandonTimerExpiry_of_more, exec_stretchExpiry_of_more⟩
  · rcases List.mem_append.1 mem with mem | mem
    · exact conditions (.inl low) mem
    · exact exec_fall_of_low low mem
  · exact exec_rise_of_stuck (by simp [State.canRise, high]) mem
  · exact exec_start_of_not_arises (by simp [State.startArises, low])
  · exact exec_stop_of_not_arises (by simp [State.stopArises, high])
  · exact exec_condition_of_not_possible (.inr (.inl holds))
  · rcases List.mem_append.1 mem with mem | mem
    · exact conditions (.inr (.inr holds)) mem
    · exact exec_rise_of_stuck (by simp [State.canRise, show (s.seg g).sclLow = true from holds]) mem
  · exact inFalls (row := .addressByte) (by simp) (by simp [fallRows])
      fun row => no ((Segment.fallRow_eq_addressByte x).1 row)
  · exact inFalls (row := .subAddressByte) (by simp) (by simp [fallRows])
      fun row => no ((Segment.fallRow_eq_subAddressByte x).1 row)
  · exact inFalls (row := .writeDataByte) (by simp) (by simp [fallRows])
      fun row => no ((Segment.fallRow_eq_writeDataByte x).1 row)
  · exact inFalls (row := .byteNeed) (by simp) (by simp [fallRows])
      fun row => no ((Segment.fallRow_eq_byteNeed x).1 row)
  · exact exec_of_other_rise (row := .writeAckBit) (sda := sda) (by simp [riseRows]) (by simp)
      fun low row => no (Segment.wData_of_riseRow row (low ▸ inStep g))
  · exact exec_of_other_rise (row := .masterAckBit) (sda := sda) (by simp [riseRows]) (by simp)
      fun low row => no (Segment.rData_of_riseRow row (low ▸ inStep g))
  · rcases other with ends | ends | ends | needs
    · exact exec_sclEdge_of_other_fall awake ((Segment.fallRow_eq_addressByte x).2 ends) (by simp)
    · exact exec_sclEdge_of_other_fall awake ((Segment.fallRow_eq_subAddressByte x).2 ends) (by simp)
    · exact exec_sclEdge_of_other_fall awake ((Segment.fallRow_eq_writeDataByte x).2 ends) (by simp)
    · exact exec_sclEdge_of_other_fall awake ((Segment.fallRow_eq_byteNeed x).2 needs) (by simp)
  · rcases other with ⟨⟨t, state⟩, clock⟩ | ⟨⟨t, state⟩, clock⟩
    · exact exec_sclEdge_of_other_rise sda awake
        ((Segment.riseRow_eq_writeAckBit x).2 ⟨by rw [state]; rfl, clock⟩) (by simp)
    · exact exec_sclEdge_of_other_rise sda awake
        ((Segment.riseRow_eq_masterAckBit x).2 ⟨by rw [state]; rfl, clock⟩) (by simp)
  · exact exec_of_not_running mem other
  · have held : s.engine.state ≠ .running ∨ s.engine.code ∈ commandCodes := by
      refine known.imp_right fun held => ?_
      rw [held]
      exact checkRows_codes mem
    exact exec_unknown_of_known held

end Sys2Proof.Machine
end

section
/-! PROOFS. START and STOP on a segment (O21, O22), the end of a transaction (O23), and the expiries and ticks of
the two timers (O39, O40). -/

namespace Sys2Proof.Machine

open Sys2Proof.Safety

variable {s : State} {g : Seg}

/-! ## START and STOP -/

theorem exec_start_of_possible (possible : ConditionPossible s g) (released : (s.lines g).sda = true) :
    exec (.start g) s = .next ((s.setLines g { scl := true, sda := false }).recogniseStart g) := by
  obtain ⟨awake, high, sdaFree, sclFree⟩ := possible
  simp [exec, execStart, State.startCondition, State.startArises, awake, high, released, sdaFree, sclFree]

theorem exec_stop_of_possible (possible : ConditionPossible s g) (pulled : (s.lines g).sda = false) :
    exec (.stop g) s = .next ((s.setLines g { scl := true, sda := true }).recogniseStop g) := by
  obtain ⟨awake, high, sdaFree, sclFree⟩ := possible
  simp [exec, execStop, State.stopCondition, State.stopArises, awake, high, pulled, sdaFree, sclFree]

/-- A segment that holds no line and runs no timer unbinds by its state and its place in the byte alone. -/
theorem Segment.unbind_of_free {x : Segment} (sdaFree : x.sdaLow = false) (sclFree : x.sclLow = false)
    (stopped : x.abandonTimer = none) (after : SegState) :
    x.unbind after = { x with state := after, clock := .bits 0 } := by
  simp [Segment.unbind, sdaFree, sclFree, stopped]

/-- Settles O21. -/
theorem unboundSegmentTakesStartAndStop : Obligations.UnboundSegmentTakesStartAndStop := by
  intro s g possible stopped
  obtain ⟨-, -, sdaFree, sclFree⟩ := id possible
  have unbinds (l : Lines) (after : SegState) : (s.setLines g l).onSeg g (Segment.unbind after)
      = (s.setLines g l).setSeg g { s.seg g with state := after, clock := .bits 0 } := by
    rw [State.onSeg, State.setLines_seg, Segment.unbind_of_free sdaFree sclFree stopped]
  refine ⟨fun released => ⟨fun mem => ?_, fun off => ?_⟩, fun pulled => ⟨fun mem => ?_, fun mem => ?_⟩⟩
  · rw [exec_start_of_possible possible released, ← unbinds]
    simp only [List.mem_cons, List.not_mem_nil, or_false] at mem
    rcases mem with state | state | state <;> simp only [State.recogniseStart, State.setLines_seg, state]
  · rw [exec_start_of_possible possible released]
    simp only [State.recogniseStart, State.setLines_seg, off]
  · rw [exec_stop_of_possible possible pulled, ← unbinds]
    simp only [List.mem_cons, List.not_mem_nil, or_false] at mem
    rcases mem with state | state <;> simp only [State.recogniseStop, State.setLines_seg, state]
  · rw [exec_stop_of_possible possible pulled]
    simp only [List.mem_cons, List.not_mem_nil, or_false] at mem
    rcases mem with state | state <;> simp only [State.recogniseStop, State.setLines_seg, state]

section Bound

variable {t : Txn} (txn : (s.seg g).txn = some t) (flowing : (s.seg g).state.request = none)
include txn flowing

/-- A START ends a transaction that does not stretch (R61, R62). -/
theorem State.recogniseStart_of_bound : s.recogniseStart g = s.endByCondition g t .repeatedStart .address := by
  rw [Segment.txn] at txn
  unfold State.recogniseStart
  cases state : (s.seg g).state <;> simp_all [SegState.txn, SegState.request]

/-- A STOP ends a transaction that does not stretch (R60, R62). -/
theorem State.recogniseStop_of_bound : s.recogniseStop g = s.endByCondition g t .stop .idle := by
  rw [Segment.txn] at txn
  unfold State.recogniseStop
  cases state : (s.seg g).state <;> simp_all [SegState.txn, SegState.request]

end Bound

/-- A byte is open from its second bit on, or from its settled first one (R46). -/
theorem ByteClock.byteOpen_of_high (c : ByteClock) : c.byteOpen true = true ↔ ∃ n, 2 ≤ n ∧ c = .bits n := by
  cases c <;> simp [ByteClock.byteOpen]

/-- While SCL is high a condition is mid-byte exactly after two bits, but never in R_DONE (R46, R58). -/
theorem State.midByte_iff (high : (s.lines g).scl = true) : s.midByte g = true ↔
    (∀ t, (s.seg g).state ≠ .rDone t) ∧ ∃ n, 2 ≤ n ∧ (s.seg g).clock = .bits n := by
  rw [← ByteClock.byteOpen_of_high]
  unfold State.midByte
  rw [high]
  split
  · rename_i t state
    exact ⟨fun never => (by cases never), fun other => absurd state (other.1 t)⟩
  · rename_i other
    exact ⟨fun byte => ⟨fun t state => other t state, byte⟩, And.right⟩

/-- Settles O22: the condition is recognised, and ends the transaction by its place in the byte. -/
theorem conditionEndsTheTransaction : Obligations.ConditionEndsTheTransaction := by
  intro s g t possible txn flowing done boundary midByte broken
  have own {u : Txn} (state : (s.seg g).state = .rDone u) : u = t := by
    rw [Segment.txn, state] at txn
    simpa [SegState.txn] using txn
  have place (level : Bool) : (s.setLines g { scl := true, sda := level }).midByte g = true ↔
      (∀ u, (s.seg g).state ≠ .rDone u) ∧ ∃ n, 2 ≤ n ∧ (s.seg g).clock = .bits n := by
    rw [State.midByte_iff (by simp), State.setLines_seg]
  have atBoundary (h : boundary) (level : Bool) :
      (s.setLines g { scl := true, sda := level }).midByte g = false := by
    refine Bool.eq_false_iff.2 fun mid => ?_
    obtain ⟨notDone, n, two, clock⟩ := (place level).1 mid
    rcases h with state | ⟨m, few, clock'⟩ | ⟨k, ninth, clock'⟩
    · exact notDone t state
    · rw [clock] at clock'
      cases clock'
      omega
    · rw [clock] at clock'
      cases clock'
  have inByte (h : midByte) (level : Bool) : (s.setLines g { scl := true, sda := level }).midByte g = true :=
    (place level).2 ⟨fun u state => h.1 (by obtain rfl := own state; exact state), h.2⟩
  have starts (level : Bool) :=
    State.recogniseStart_of_bound (s := s.setLines g { scl := true, sda := level }) (g := g) (t := t)
      (by simpa using txn) (by simpa using flowing)
  have stops (level : Bool) :=
    State.recogniseStop_of_bound (s := s.setLines g { scl := true, sda := level }) (g := g) (t := t)
      (by simpa using txn) (by simpa using flowing)
  refine ⟨fun released => ⟨fun h => ?_, fun h => ?_⟩, fun pulled => ⟨fun h => ?_, fun h => ?_⟩⟩
  · rw [exec_start_of_possible possible released, starts, State.endByCondition, atBoundary h]
    rfl
  · rw [exec_start_of_possible possible released, starts, State.endByCondition, inByte h]
    rfl
  · rw [exec_stop_of_possible possible pulled, stops, State.endByCondition, atBoundary h]
    rfl
  · rw [exec_stop_of_possible possible pulled, stops, State.endByCondition, inByte h]
    rfl

/-! ## The end of a transaction (R64) -/

theorem State.completeWaiting_of_free (free : ∀ h, s.engine.state ≠ .waiting g h) : s.completeWaiting g = s := by
  rcases State.completeWaiting_cases s g with ⟨h, waits, -⟩ | ⟨-, same⟩
  · exact absurd waits (free h)
  · exact same

@[simp] theorem State.commitRecords_engine (s : State) (g : Seg) (cause : CommitCause) (l : List OpenRecord) :
    (s.commitRecords g cause l).engine = s.engine := by
  obtain ⟨index, events, equal⟩ := State.commitRecords_eq s g cause l
  rw [equal]

/-- An ABANDONED end that no command waits for unbinds the segment and frees its cells (R64, R88). -/
theorem State.endTransaction_abandoned (free : ∀ h, s.engine.state ≠ .waiting g h) (t : Txn) (after : SegState) :
    s.endTransaction g t .abandoned after = (s.setSeg g (unbound after (s.seg g))).discardRecords g :=
  State.completeWaiting_of_free (s := (s.onSeg g (Segment.unbind after)).discardRecords g)
    (by simpa [State.onSeg] using free)

/-- Settles O23. -/
theorem endUnbindsAndSettlesTheRecords : Obligations.EndUnbindsAndSettlesTheRecords := by
  intro s g t after free s'
  refine ⟨fun c => ?_, ?_⟩
  · exact State.completeWaiting_of_free (s := s'.commitRecords g c t.records) (by simpa [s'] using free)
  · rw [State.endTransaction_abandoned free, State.discardRecords, State.setSeg_pool]
    rfl

/-! ## Expiries (R63, R123) -/

/-- The last tick of the abandon timer abandons the transaction (R65). -/
theorem exec_abandonTimerExpiry_of_last (awake : s.inReset = false) (last : (s.seg g).abandonTimer = some 1) :
    exec (.abandonTimerExpiry g) s = .next (s.abandon g .idle) := by
  simp [exec, execAbandonTimerExpiry, awake, last, State.expireAbandon]

/-- The last tick of the stretch timer expires the request (R123). -/
theorem exec_stretchExpiry_of_last {t : Txn} {r : Request} (awake : s.inReset = false)
    (state : (s.seg g).state = .rStretch t r) (last : r.remaining = 1) :
    exec (.stretchExpiry g) s = .next (s.expireStretch g t r) := by
  simp [exec, execStretchExpiry, awake, state, last]

/-- Settles O40. -/
theorem expiriesAbandonOrFill : Obligations.ExpiriesAbandonOrFill := by
  intro s g t awake
  refine ⟨fun txn last => ?_, fun r state last => ?_⟩
  · rw [exec_abandonTimerExpiry_of_last awake last, State.abandon_of_bound .idle txn]
    rfl
  · rw [exec_stretchExpiry_of_last awake state last]
    rfl

/-! ## Ticks (R49) -/

section Stretched

variable {t : Txn} {r : Request} {x : Segment}

theorem dueExpiry_of_stretched (state : x.state = .rStretch t r) (g : Seg) :
    dueExpiry g x = if r.remaining = 1 then some (.stretchExpiry g) else none := by
  simp only [dueExpiry, state]

theorem tickedDown_of_stretched (state : x.state = .rStretch t r) :
    tickedDown x = { x with state := .rStretch t { r with remaining := r.remaining - 1 } } := by
  simp only [tickedDown, state]

theorem State.tickSegment_of_stretched (state : (s.seg g).state = .rStretch t r) : s.tickSegment g =
    if r.remaining ≤ 1 then s.expireStretch g t r
    else s.onSeg g (Segment.enter (.rStretch t { r with remaining := r.remaining - 1 })) := by
  simp only [State.tickSegment, state]

end Stretched

section Flowing

variable {x : Segment}

theorem SegState.ne_rStretch_of_flowing {state : SegState} (flowing : state.request = none) (t : Txn)
    (r : Request) : state ≠ .rStretch t r := by
  rintro rfl
  cases flowing

theorem dueExpiry_of_flowing (flowing : x.state.request = none) (g : Seg) :
    dueExpiry g x = if x.abandonTimer = some 1 then some (.abandonTimerExpiry g) else none := by
  unfold dueExpiry
  split
  · exact absurd (by assumption) (SegState.ne_rStretch_of_flowing flowing _ _)
  · rfl

theorem tickedDown_of_flowing (flowing : x.state.request = none) :
    tickedDown x = { x with abandonTimer := x.abandonTimer.map (· - 1) } := by
  unfold tickedDown
  split
  · exact absurd (by assumption) (SegState.ne_rStretch_of_flowing flowing _ _)
  · rfl

theorem State.tickSegment_of_stopped (flowing : (s.seg g).state.request = none)
    (stopped : (s.seg g).abandonTimer = none) : s.tickSegment g = s := by
  unfold State.tickSegment
  split
  · exact absurd (by assumption) (SegState.ne_rStretch_of_flowing flowing _ _)
  · simp only [stopped]

theorem State.tickSegment_of_running {n : Nat} (flowing : (s.seg g).state.request = none)
    (timer : (s.seg g).abandonTimer = some n) : s.tickSegment g =
      if n ≤ 1 then s.abandon g .idle else s.onSeg g fun x => { x with abandonTimer := some (n - 1) } := by
  unfold State.tickSegment
  split
  · exact absurd (by assumption) (SegState.ne_rStretch_of_flowing flowing _ _)
  · simp only [timer]
    rfl

end Flowing

/-- A segment stretches, or it does not. -/
theorem Segment.stretched_or_flowing (x : Segment) :
    (∃ t r, x.state = .rStretch t r) ∨ x.state.request = none := by
  cases request : x.state.request with
  | none => exact .inr rfl
  | some r =>
    obtain ⟨t, state⟩ := SegState.request_eq_some.1 request
    exact .inl ⟨t, r, state⟩

/-- With no expiry due a tick counts the running timer down. -/
theorem State.tickSegment_of_not_due (law : SegmentLaw (s.seg g)) (more : dueExpiry g (s.seg g) = none) :
    s.tickSegment g = s.setSeg g (tickedDown (s.seg g)) := by
  rcases (s.seg g).stretched_or_flowing with ⟨t, r, state⟩ | flowing
  · obtain ⟨-, -, positive, -⟩ := (segmentLaw_iff_of_stretched state).1 law
    have left : ¬ r.remaining ≤ 1 := by
      rw [dueExpiry_of_stretched state] at more
      have : r.remaining ≠ 1 := by simpa using more
      omega
    rw [State.tickSegment_of_stretched state, if_neg left, tickedDown_of_stretched state]
    rfl
  · rw [tickedDown_of_flowing flowing]
    cases timer : (s.seg g).abandonTimer with
    | none =>
      have same : { s.seg g with abandonTimer := none } = s.seg g := by rw [← timer]
      rw [State.tickSegment_of_stopped flowing timer, Option.map_none, same, State.setSeg_seg_self]
    | some n =>
      have positive : 1 ≤ n := ((segmentLaw_iff_of_flowing flowing).1 law).2.2 n timer
      have left : ¬ n ≤ 1 := by
        rw [dueExpiry_of_flowing flowing, timer] at more
        have : n ≠ 1 := by simpa using more
        omega
      rw [State.tickSegment_of_running flowing timer, if_neg left]
      rfl

/-- A due expiry comes with the tick. -/
theorem exec_of_due {c : Instr} (awake : s.inReset = false) (due : dueExpiry g (s.seg g) = some c) :
    exec c s = .next (s.tickSegment g) := by
  rcases (s.seg g).stretched_or_flowing with ⟨t, r, state⟩ | flowing
  · rw [dueExpiry_of_stretched state] at due
    split at due
    · rename_i last
      cases due
      rw [exec_stretchExpiry_of_last awake state last, State.tickSegment_of_stretched state,
        if_pos (by omega)]
    · cases due
  · rw [dueExpiry_of_flowing flowing] at due
    split at due
    · rename_i last
      cases due
      rw [exec_abandonTimerExpiry_of_last awake last, State.tickSegment_of_running flowing last,
        if_pos (by omega)]
    · cases due

/-! ## The timers of one segment do not reach the other -/

section Other

variable {h : Seg} (ne : h ≠ g) (y : Segment)
include ne

theorem State.setSeg_comm (x : Segment) : (s.setSeg h y).setSeg g x = (s.setSeg g x).setSeg h y := by
  cases g <;> cases h
  · exact absurd rfl ne
  · rfl
  · rfl
  · exact absurd rfl ne

theorem State.onSeg_setSeg (f : Segment → Segment) : (s.setSeg h y).onSeg g f = (s.onSeg g f).setSeg h y := by
  rw [State.onSeg, State.setSeg_seg_other s h g y ne.symm]
  exact State.setSeg_comm ne y _

theorem State.applyHeld_setSeg (v : Held) : (s.setSeg h y).applyHeld g v = (s.applyHeld g v).setSeg h y := by
  cases v with
  | segment c => exact State.onSeg_setSeg ne y fun x => { x with config := c }
  | disable k => cases h <;> rfl
  | regions k l => cases h <;> rfl
  | imagePut k offset bytes => cases h <;> rfl

theorem State.completeWaiting_setSeg :
    (s.setSeg h y).completeWaiting g = (s.completeWaiting g).setSeg h y := by
  rcases State.completeWaiting_cases s g with ⟨v, waits, equal⟩ | ⟨free, equal⟩
  · rw [equal, State.completeWaiting, State.setSeg_engine, waits]
    simp only [if_true]
    rw [State.applyHeld_setSeg ne y]
    cases h <;> rfl
  · rw [equal, State.completeWaiting_of_free (by simpa using free)]

theorem State.abandon_setSeg (after : SegState) : (s.setSeg h y).abandon g after = (s.abandon g after).setSeg h y := by
  have seg := State.setSeg_seg_other s h g y ne.symm
  cases txn : (s.seg g).txn with
  | none => rw [State.abandon_of_unbound after txn, State.abandon_of_unbound after (by rwa [seg])]
  | some t =>
    rw [State.abandon_of_bound after txn, State.abandon_of_bound after (by rwa [seg]), State.onSeg_setSeg ne y]
    have ended (u : State) : ((u.setSeg h y).endTransaction g t .abandoned after)
        = (u.endTransaction g t .abandoned after).setSeg h y := by
      have settled : ((u.setSeg h y).onSeg g (Segment.unbind after)).discardRecords g
          = ((u.onSeg g (Segment.unbind after)).discardRecords g).setSeg h y := by
        rw [State.onSeg_setSeg ne y]
        cases h <;> rfl
      unfold State.endTransaction
      dsimp only
      rw [settled, State.completeWaiting_setSeg ne y]
    rw [← ended]
    cases h <;> rfl

theorem State.expireStretch_setSeg (t : Txn) (r : Request) :
    (s.setSeg h y).expireStretch g t r = (s.expireStretch g t r).setSeg h y := by
  rw [State.expireStretch, State.onSeg_setSeg ne y, State.setSeg_entry]
  cases h <;> rfl

/-- A tick at one segment and a change of the other come in either order. -/
theorem State.tickSegment_setSeg : (s.setSeg h y).tickSegment g = (s.tickSegment g).setSeg h y := by
  have seg := State.setSeg_seg_other s h g y ne.symm
  rcases (s.seg g).stretched_or_flowing with ⟨t, r, state⟩ | flowing
  · rw [State.tickSegment_of_stretched state, State.tickSegment_of_stretched (by rwa [seg])]
    split
    · exact State.expireStretch_setSeg ne y t r
    · exact State.onSeg_setSeg ne y _
  · cases timer : (s.seg g).abandonTimer with
    | none => rw [State.tickSegment_of_stopped flowing timer, State.tickSegment_of_stopped (by rwa [seg]) (by rwa [seg])]
    | some n =>
      rw [State.tickSegment_of_running flowing timer, State.tickSegment_of_running (by rwa [seg]) (by rwa [seg])]
      split
      · exact State.abandon_setSeg ne y _
      · exact State.onSeg_setSeg ne y _

omit y in
theorem State.tickSegment_seg_other : (s.tickSegment g).seg h = s.seg h := by
  have same := State.tickSegment_setSeg (s := s) ne (s.seg h)
  rw [State.setSeg_seg_self] at same
  rw [same, State.setSeg_seg_same]

end Other

/-- Settles O39: a tick is one tick at each segment, and neither reaches the other's timers. -/
theorem tickReachesEveryRunningTimer : Obligations.TickReachesEveryRunningTimer := by
  intro s awake laws
  obtain ⟨lawA, lawB, -⟩ := laws
  have tick : exec .tick s = .next ((s.tickSegment .A).tickSegment .B) := by
    simp [exec, execTick, awake]
  have other : (s.tickSegment .A).seg .B = s.segB := State.tickSegment_seg_other (by simp)
  have countsA (more : dueExpiry .A s.segA = none) : s.tickSegment .A = s.setSeg .A (tickedDown s.segA) :=
    State.tickSegment_of_not_due (g := .A) lawA more
  have countsB (more : dueExpiry .B s.segB = none) : (s.tickSegment .A).tickSegment .B
      = (s.tickSegment .A).setSeg .B (tickedDown s.segB) := by
    rw [← other]
    exact State.tickSegment_of_not_due (g := .B) (by rwa [other]) (by rwa [other])
  have taken {g : Seg} {c : Instr} {u : State} (due : dueExpiry g (s.seg g) = some c)
      (answer : exec c s = .next u) : u = s.tickSegment g := by
    rw [exec_of_due awake due] at answer
    cases answer
    rfl
  refine ⟨fun moreA moreB => ?_, fun u c answer => ⟨fun due more => ?_, fun due more => ?_, fun d due due' => ?_⟩⟩
  · rw [tick, countsB moreB, countsA moreA]
    rfl
  · obtain rfl := taken (g := .A) due answer
    rw [tick, countsB more]
    rfl
  · obtain rfl := taken (g := .B) due answer
    rw [tick, countsA more, State.tickSegment_setSeg (by simp)]
    rfl
  · obtain rfl := taken (g := .A) due answer
    have still : (s.tickSegment .A).inReset = false :=
      (State.tickSegment_moves s .A).inReset_eq.trans awake
    rw [tick, exec_of_due (g := .B) still (by rwa [other])]

end Sys2Proof.Machine
end

section
/-! PROOFS. The edges of SCL: the acknowledge bits (O32), the edges that are no other row (O33), eight clocks that
deliver a byte (O34), and the edge at which a byte is asked of the host (O36). -/

namespace Sys2Proof.Machine

open Sys2Proof.Safety

variable {s : State} {g : Seg}

/-! ## The acknowledge bits (R55, R58) -/

@[simp] theorem sclRose_seg (s : State) (g : Seg) (sda : Bool) (h : Seg) : (sclRose s g sda).seg h = s.seg h :=
  State.setLines_seg ..

@[simp] theorem sclRose_entry (s : State) (g : Seg) (sda : Bool) (k : Fin 16) :
    (sclRose s g sda).entry k = s.entry k := State.setLines_entry ..

theorem State.raiseClock_eq_sclRose (s : State) (g : Seg) (sda : Bool) : s.raiseClock g sda = sclRose s g sda := rfl

/-- A rising edge of a segment that takes bits is the row its place in the byte gives. -/
theorem State.riseArises_of_clockLow {row : EdgeRow} (clockLow : ClockLow s g)
    (edge : (s.seg g).riseRow = row) : s.riseArises g row = true := by
  obtain ⟨awake, low, released⟩ := clockLow
  exact State.riseArises_iff.2 ⟨awake, low, released, edge⟩

/-- The pointer step of an acknowledge bit, with the segment's own part left open (R33). -/
theorem State.raiseAndStep_eq (s : State) (g : Seg) (k : Fin 16) (sda : Bool) (f : Segment → Segment) :
    ((s.raiseClock g sda).onEntry k Entry.step).onSeg g f = ((sclRose s g sda).setEntry k
      { s.entry k with pointer := (s.entry k).nextPointer }).setSeg g (f (s.seg g)) := by
  rw [State.raiseClock_eq_sclRose, State.onSeg, State.onEntry, State.setEntry_seg, sclRose_seg, sclRose_entry]
  rfl

/-- Settles O32. -/
theorem acknowledgeBitStepsThePointer : Obligations.AcknowledgeBitStepsThePointer := by
  intro s g t sda clockLow running stepped
  refine ⟨fun state clock => ?_, fun state clock released => ?_⟩
  · have row := (Segment.riseRow_eq_writeAckBit (s.seg g)).2 ⟨by rw [state]; rfl, clock⟩
    have taken : exec (.writeAckBit g sda) s = .next (s.takeWriteAck g t sda) := by
      simp only [exec, execWriteAckBit, State.riseArises_of_clockLow clockLow row, if_true, Segment.txn, state,
        SegState.txn]
    rw [taken, State.takeWriteAck, State.raiseAndStep_eq]
    exact congrArg (fun x => Host.Outcome.next (stepped.setSeg g x)) (Segment.busActivity_of_running running)
  · have row := (Segment.riseRow_eq_masterAckBit (s.seg g)).2 ⟨by rw [state]; rfl, clock⟩
    have taken : exec (.masterAckBit g sda) s = .next (s.takeMasterAck g t sda) := by
      simp only [exec, execMasterAckBit, State.riseArises_of_clockLow clockLow row, if_true, Segment.txn, state,
        SegState.txn]
    have line : s.sdaLine g sda = sda := by simp [State.sdaLine, released]
    rw [taken, State.takeMasterAck, State.raiseAndStep_eq, line]
    exact congrArg (fun x => Host.Outcome.next (stepped.setSeg g x)) (Segment.busActivity_of_running running)

/-! ## Edges that are no other row (R45 to R48) -/

/-- A rising SCL_EDGE in full. -/
theorem exec_sclEdge_rise (clockLow : ClockLow s g) (edge : (s.seg g).riseRow = .sclEdge) (sda : Bool) :
    exec (.sclEdge g (.rise sda)) s
      = .next ((sclRose s g sda).setSeg g ((s.seg g).takeRise (s.sdaLine g sda)).busActivity) := by
  have arises := State.riseArises_of_clockLow clockLow edge
  obtain ⟨awake, -, -⟩ := clockLow
  simp only [exec, execSclEdge, State.clockEdge, awake, Bool.false_eq_true, if_false, arises, if_true, State.onSeg,
    State.raiseClock_eq_sclRose, sclRose_seg]

/-- A falling SCL_EDGE in full. -/
theorem exec_sclEdge_fall (awake : s.inReset = false) (high : (s.lines g).scl = true)
    (edge : (s.seg g).fallRow = .sclEdge) :
    exec (.sclEdge g .fall) s = .next ((sclFell s g).setSeg g (s.seg g).takeFall.busActivity) := by
  have arises : s.fallArises g .sclEdge = true := State.fallArises_iff.2 ⟨awake, high, edge⟩
  simp only [exec, execSclEdge, State.clockEdge, awake, Bool.false_eq_true, if_false, arises, if_true, State.onSeg,
    State.lowerClock_eq_sclFell, sclFell_seg]

/-- The states that receive a byte. -/
theorem SegState.receives_iff (x : SegState) : x.completion ≠ .never ↔
    x = .address ∨ ∃ t, x = .wSubaddr t ∨ x = .wData t ∨ x = .wRefusing t := by
  cases x <;> simp [SegState.completion]

theorem SegState.takesBits_of_receives {x : SegState} (receives : x.completion ≠ .never) : x.takesBits = true :=
  (SegState.takesBits_iff x).2 (.inl receives)

theorem ByteClock.riseRow_bits {n : Nat} (more : n < 8) : (ByteClock.bits n).riseRow = .sclEdge := by
  simp [ByteClock.riseRow, more]

theorem ByteClock.receiverFallRow_bits {n : Nat} (more : n < 8) (completion : EdgeRow) :
    (ByteClock.bits n).receiverFallRow completion = .sclEdge := by
  simp [ByteClock.receiverFallRow, Nat.ne_of_lt more]

/-- A falling edge settles a bit of a received byte (R46). -/
theorem Segment.settle_of_bits {x : Segment} {n : Nat} (clock : x.clock = .bits n) : x.settle = x := by
  simp [Segment.settle, clock]

/-- A falling edge ends the acknowledge clock of a received byte and releases SDA (R47). -/
theorem Segment.settle_of_ack {x : Segment} {k : AckKind} {ninth : Bool} (clock : x.clock = .ack k ninth) :
    x.settle = { x with clock := .bits 0, sdaLow := false } := by
  simp [Segment.settle, clock]

/-- A falling edge presents the next bit of a byte being sent (R48). -/
theorem Segment.presentNext_of_bits {x : Segment} {n : Nat} (more : n < 8) (clock : x.clock = .bits n) :
    x.presentNext = { x with sdaLow := !x.sending.getLsbD (7 - n) } := by
  simp [Segment.presentNext, clock, Nat.ne_of_lt more, BitVec.getMsbD, more]

/-- The falling edge after the eighth bit releases SDA for the acknowledge clock (R48). -/
theorem Segment.presentNext_of_eighth {x : Segment} (clock : x.clock = .bits 8) :
    x.presentNext = { x with clock := .ack .transmitted false, sdaLow := false } := by
  simp [Segment.presentNext, clock]

/-- A sampled bit comes in at the low end (R46). -/
theorem shiftConcat_eq_or (v : Byte) (b : Bool) : v.shiftConcat b = (v <<< 1) ||| (if b then 1 else 0) := by
  cases b <;> revert v <;> decide

/-- Settles O33: each clause names the row SCL_EDGE and what it does at that place. -/
theorem sclEdgeTakesOrPresentsABit : Obligations.SclEdgeTakesOrPresentsABit := by
  intro s g sda awake x receiving takes idleBits active
  have receives (h : receiving) : x.state.completion ≠ .never := (SegState.receives_iff _).2 h
  have bits (h : takes) : x.state.takesBits = true :=
    (SegState.takesBits_iff _).2 (h.imp_left receives)
  have noBits (h : idleBits) : x.state.takesBits = false ∧ x.state.request = none := by
    simp only [idleBits, List.mem_cons, List.not_mem_nil, or_false] at h
    rcases h with (state | state | state) | ⟨t, state⟩ <;> rw [state] <;> exact ⟨rfl, rfl⟩
  refine ⟨fun low released => ?_, fun high => ?_⟩
  · have clockLow : ClockLow s g := ⟨awake, low, released⟩
    refine ⟨fun n more h clock => ?_, fun k h mem clock => ?_, fun h => ?_⟩
    · have row : x.riseRow = .sclEdge := by
        rw [Segment.riseRow_of_takesBits (bits h), clock, ByteClock.riseRow_bits more]
      rw [exec_sclEdge_rise clockLow row, Segment.takeRise_of_bits (bits h) clock, shiftConcat_eq_or]
      rfl
    · have row : x.riseRow = .sclEdge := by
        rw [Segment.riseRow_of_takesBits (bits h), clock]
        simp only [List.mem_cons, List.not_mem_nil, or_false] at mem
        rcases mem with rfl | rfl | rfl <;> rfl
      rw [exec_sclEdge_rise clockLow row, Segment.takeRise_of_ack (bits h) clock]
      rfl
    · obtain ⟨no, flowing⟩ := noBits h
      rw [exec_sclEdge_rise clockLow (Segment.riseRow_of_not_takesBits no flowing),
        Segment.takeRise_of_not_takesBits no]
      rfl
  · refine ⟨fun n more h clock => ?_, fun k h clock => ?_, fun t n more state clock => ?_,
      fun t state clock => ?_, fun h => ?_⟩
    · obtain ⟨settles, rows⟩ := Segment.fall_of_receiving (receives h)
      rw [exec_sclEdge_fall awake high (by rw [rows, clock, ByteClock.receiverFallRow_bits more]), settles,
        Segment.settle_of_bits clock]
      rfl
    · obtain ⟨settles, rows⟩ := Segment.fall_of_receiving (receives h)
      rw [exec_sclEdge_fall awake high (by rw [rows, clock]; rfl), settles, Segment.settle_of_ack clock]
      rfl
    · obtain ⟨presents, rows⟩ := Segment.fall_of_rData state
      rw [exec_sclEdge_fall awake high (by rw [rows, clock]; rfl), presents,
        Segment.presentNext_of_bits more clock]
      rfl
    · obtain ⟨presents, rows⟩ := Segment.fall_of_rData state
      rw [exec_sclEdge_fall awake high (by rw [rows, clock]; rfl), presents, Segment.presentNext_of_eighth clock]
      rfl
    · obtain ⟨no, flowing⟩ := noBits h
      rw [exec_sclEdge_fall awake high (Segment.fallRow_of_not_takesBits no flowing),
        Segment.takeFall_of_not_takesBits no]
      rfl

/-! ## Eight clocks deliver a byte (R46) -/

/-- The state in which segment `g` has taken bits of a byte: their number, the register that holds them, the lines
and the commands that still wait. All else is as in `s`, but that a running abandon timer has been restarted. -/
def State.afterBits (s : State) (g : Seg) (taken : Nat) (bits : Byte) (l : Lines) (rest : List Instr) : State :=
  { (s.setLines g l).setSeg g { s.seg g with
      clock := .bits taken, shift := bits, abandonTimer := (s.seg g).busActivity.abandonTimer } with pending := rest }

@[simp] theorem State.afterBits_seg (s : State) (g : Seg) (n : Nat) (v : Byte) (l : Lines) (rest : List Instr) :
    (s.afterBits g n v l rest).seg g = { s.seg g with
      clock := .bits n, shift := v, abandonTimer := (s.seg g).busActivity.abandonTimer } := by
  cases g <;> rfl

@[simp] theorem State.afterBits_lines (s : State) (g : Seg) (n : Nat) (v : Byte) (l : Lines) (rest : List Instr) :
    (s.afterBits g n v l rest).lines g = l := by
  cases g <;> rfl

@[simp] theorem State.afterBits_inReset (s : State) (g : Seg) (n : Nat) (v : Byte) (l : Lines) (rest : List Instr) :
    (s.afterBits g n v l rest).inReset = s.inReset := by
  cases g <;> rfl

@[simp] theorem State.afterBits_afterBits (s : State) (g : Seg) (n m : Nat) (v w : Byte) (l k : Lines)
    (rest more : List Instr) :
    (s.afterBits g n v l rest).afterBits g m w k more = s.afterBits g m w k more := by
  have timer : ((s.afterBits g n v l rest).seg g).busActivity.abandonTimer = (s.seg g).busActivity.abandonTimer := by
    cases running : (s.seg g).abandonTimer <;> simp [Segment.busActivity, Segment.abandonPeriod, running]
  unfold State.afterBits at timer ⊢
  rw [timer]
  cases g <;> rfl

/-- A segment that is ready for the next bit of a byte it receives, with `n` bits taken. -/
structure State.Receiving (s : State) (g : Seg) (n : Nat) : Prop where
  receives : (s.seg g).state.completion ≠ .never
  clock : (s.seg g).clock = .bits n
  free : (s.seg g).sdaLow = false

/-- Another place in the byte, and another level of the lines. -/
theorem State.Receiving.afterBits {n : Nat} (ready : s.Receiving g n) (m : Nat) (v : Byte) (l : Lines)
    (rest : List Instr) : (s.afterBits g m v l rest).Receiving g m :=
  ⟨by simpa using ready.receives, by simp, by simpa using ready.free⟩

theorem State.withPending_seg (s : State) (rest : List Instr) (g : Seg) :
    ({ s with pending := rest } : State).seg g = s.seg g := by
  cases g <;> rfl

theorem State.withPending_lines (s : State) (rest : List Instr) (g : Seg) :
    ({ s with pending := rest } : State).lines g = s.lines g := by
  cases g <;> rfl

theorem step_of_pending {c : Instr} {rest : List Instr} (waits : s.pending = c :: rest) :
    step s = exec c { s with pending := rest } := by
  unfold step
  rw [waits]

/-- The rising edge of a clock takes the bit on SDA. -/
theorem step_rise {n : Nat} {b : Bool} {rest : List Instr} (clockLow : ClockLow s g) (ready : s.Receiving g n)
    (more : n < 8) (waits : s.pending = .sclEdge g (.rise b) :: rest) :
    step s = .next (s.afterBits g (n + 1) ((s.seg g).shift.shiftConcat b) { scl := true, sda := b } rest) := by
  have takes := SegState.takesBits_of_receives ready.receives
  have row : (s.seg g).riseRow = .sclEdge := by
    rw [Segment.riseRow_of_takesBits takes, ready.clock, ByteClock.riseRow_bits more]
  have same := s.withPending_seg rest g
  have low : ClockLow { s with pending := rest } g := by
    rwa [ClockLow, same, State.withPending_lines]
  have level : ({ s with pending := rest } : State).sdaLine g b = b := by
    simp [State.sdaLine, same, ready.free]
  rw [step_of_pending waits, exec_sclEdge_rise low (same ▸ row), level, same,
    Segment.takeRise_of_bits takes ready.clock]
  cases g <;> rfl

/-- The falling edge of a clock settles the bit. -/
theorem step_fall {n : Nat} {rest : List Instr} (awake : s.inReset = false) (high : (s.lines g).scl = true)
    (ready : s.Receiving g n) (more : n < 8) (waits : s.pending = .sclEdge g .fall :: rest) :
    step s = .next (s.afterBits g n (s.seg g).shift { scl := false, sda := (s.lines g).sda } rest) := by
  obtain ⟨settles, rows⟩ := Segment.fall_of_receiving ready.receives
  have row : (s.seg g).fallRow = .sclEdge := by rw [rows, ready.clock, ByteClock.receiverFallRow_bits more]
  have same := s.withPending_seg rest g
  have unmoved : (s.seg g).busActivity = { s.seg g with
      clock := .bits n, shift := (s.seg g).shift, abandonTimer := (s.seg g).busActivity.abandonTimer } := by
    rw [← ready.clock]
    rfl
  rw [step_of_pending waits, exec_sclEdge_fall (by exact awake) (by rwa [State.withPending_lines]) (same ▸ row),
    same, settles, Segment.settle_of_bits ready.clock, unmoved]
  cases g <;> rfl

theorem run_succ {t : State} (k : Nat) (stepped : step s = .next t) :
    Host.Core.run Sys2Proof.core (k + 1) s = Host.Core.run Sys2Proof.core k t := by
  have taken : Sys2Proof.core.step s = .next t := stepped
  simp only [Host.Core.run, taken]

/-- The two edges of the clock of one bit. -/
def clockOf (g : Seg) (b : Bool) : List Instr := [.sclEdge g (.rise b), .sclEdge g .fall]

/-- The clocks of some bits and the rising edge of one more, in which a byte is not yet complete: they come in
one by one, each at the low end. -/
theorem run_clocks (g : Seg) (last : Bool) (rest : List Instr) (bits : List Bool) :
    ∀ (s : State) (n : Nat), ClockLow s g → s.Receiving g n → n + bits.length < 8 →
      s.pending = bits.flatMap (clockOf g) ++ .sclEdge g (.rise last) :: rest →
      Host.Core.run Sys2Proof.core (2 * bits.length + 1) s = .next (s.afterBits g (n + bits.length + 1)
        ((bits ++ [last]).foldl BitVec.shiftConcat (s.seg g).shift) { scl := true, sda := last } rest) := by
  induction bits with
  | nil =>
    intro s n low ready few waits
    rw [run_succ _ (step_rise low ready few waits)]
    rfl
  | cons b bits ih =>
    intro s n low ready few waits
    obtain ⟨awake, -, released⟩ := id low
    rw [List.length_cons] at few
    let tail := bits.flatMap (clockOf g) ++ .sclEdge g (.rise last) :: rest
    have rise := step_rise low ready (by omega) (rest := .sclEdge g .fall :: tail) waits
    have risen := ready.afterBits (n + 1) ((s.seg g).shift.shiftConcat b) { scl := true, sda := b }
      (.sclEdge g .fall :: tail)
    have fall := step_fall (by simpa using awake) (by simp) risen (by omega) (rest := tail) rfl
    have fallen := risen.afterBits (n + 1) ((s.seg g).shift.shiftConcat b) { scl := false, sda := b } tail
    simp only [State.afterBits_afterBits, State.afterBits_seg, State.afterBits_lines] at fall fallen
    have others := ih _ (n + 1) ⟨by simpa using awake, by simp, by simpa using released⟩ fallen (by omega) rfl
    simp only [State.afterBits_afterBits, State.afterBits_seg] at others
    rw [show 2 * (b :: bits).length + 1 = 2 * bits.length + 1 + 1 + 1 by rw [List.length_cons]; ring,
      run_succ _ rise, run_succ _ fall, others, List.length_cons, List.cons_append, List.foldl_cons,
      show n + 1 + bits.length + 1 = n + (bits.length + 1) + 1 by ring]

/-- The bits of a byte, the most significant first, bring the whole byte in, whatever the register held. -/
theorem foldl_shiftConcat_bits (v b : Byte) :
    [b.getLsbD 7, b.getLsbD 6, b.getLsbD 5, b.getLsbD 4, b.getLsbD 3, b.getLsbD 2, b.getLsbD 1, b.getLsbD 0].foldl
      BitVec.shiftConcat v = b := by
  refine BitVec.eq_of_getLsbD_eq fun i below => ?_
  simp only [List.foldl_cons, List.foldl_nil, BitVec.getLsbD_shiftConcat]
  interval_cases i <;> simp

/-- Settles O34: seven clocks and the last rising edge, one after another. -/
theorem eightClocksDeliverAByte : Obligations.EightClocksDeliverAByte := by
  intro s g b rest low receiving clock free bit waits
  have ready : s.Receiving g 0 := ⟨(SegState.receives_iff _).2 receiving, clock, free⟩
  have delivered := run_clocks g (b.getLsbD 0) rest
    [b.getLsbD 7, b.getLsbD 6, b.getLsbD 5, b.getLsbD 4, b.getLsbD 3, b.getLsbD 2, b.getLsbD 1] s 0 low ready
    (by simp) waits
  simp only [List.cons_append, List.nil_append, foldl_shiftConcat_bits] at delivered
  exact delivered

/-! ## A byte that is asked of the host (R110, R112, R113) -/

theorem State.byteSource_of_deferred {t : Txn}
    (class_ : (s.entry t.target).classify (s.entry t.target).pointer = .inRegion .deferred)
    (fresh : t.expired = false)
    (unserved : ¬ (t.ahead.bytes ≠ [] ∧ t.ahead.next = (s.entry t.target).pointer.toNat))
    (awake : ¬ (s.events.host = .asleep ∧ (s.entry t.target).sleep = .fill)) : s.byteSource t = .request := by
  rw [← ReadAhead.serves_iff] at unserved
  simp only [State.byteSource, class_, fresh, unserved, awake, Bool.false_eq_true, if_false]

/-- The number of a new request: the counter's, unless the other segment's request carries that one (R113). -/
theorem State.nextSequence_eq {n : Byte}
    (skips : (∃ r, (s.seg (otherSeg g)).state.request = some r ∧ r.sequence = s.dru.sequenceCounter) →
      n = s.dru.sequenceCounter + 1)
    (stays : ¬ (∃ r, (s.seg (otherSeg g)).state.request = some r ∧ r.sequence = s.dru.sequenceCounter) →
      n = s.dru.sequenceCounter) : s.nextSequence g = n := by
  unfold State.nextSequence
  cases other : (s.seg (otherSeg g)).state.request with
  | none => exact (stays (by simp [other])).symm
  | some r =>
    dsimp only
    split
    · rename_i taken
      exact (skips ⟨r, other, taken⟩).symm
    · rename_i free
      refine (stays ?_).symm
      rintro ⟨q, same, taken⟩
      rw [other] at same
      cases same
      exact free taken

/-- Settles O36. -/
theorem neededByteIsRequested : Obligations.NeededByteIsRequested := by
  intro s g t k awake high state ninth e class_ fresh unserved policy other taken n skips stays
  let edge : State := (sclFell s g).setSeg g (s.seg g).busActivity
  have answer : exec (.byteNeed g) s = .next (edge.needByte g t) := by
    simp only [exec, execByteNeed, State.byteNeed_arises awake high state ninth, if_true, Segment.txn, state,
      SegState.txn, State.takeByteNeed, State.onSeg, State.lowerClock_eq_sclFell, sclFell_seg]
    rfl
  have source : edge.byteSource t = .request := by
    rw [State.byteSource_edge]
    exact State.byteSource_of_deferred class_ fresh unserved policy
  have sameOther : (edge.seg (otherSeg g)).state.request = other := by
    cases g <;> rfl
  have counter : edge.dru = s.dru := by cases g <;> rfl
  have number : edge.nextSequence g = n := by
    refine State.nextSequence_eq ?_ ?_ <;> rw [sameOther, counter]
    · exact skips
    · exact stays
  rw [answer, State.needByte]
  simp only [source, State.createRequest, number]
  cases g <;> rfl

end Sys2Proof.Machine
end

section
/-! PROOFS. The completion checks of SEGMENT (O52) and CLEAR_COUNTERS (O53). -/

namespace Sys2Proof.Machine

open Sys2Proof.Safety

variable {s : State}

/-! ## SEGMENT (R67, R68) -/

theorem powerOfCode_eq (b : Byte) :
    powerOfCode b = if b.toNat ≤ 1 then some (if b = 0 then false else true) else none :=
  twoCodes_eq b ..

/-- The parameters of SEGMENT that pass its checks (R67). -/
def ValidSegment (p : Params) : Prop :=
  p[0].toNat ≤ 1 ∧ p[1].toNat ≤ 1 ∧ p[2] ≠ 0 ∧ p[3] ≠ 0 ∧ 1 ≤ p[4].toNat ∧ p[4].toNat ≤ 32

theorem segmentParams_of_valid {p : Params} (valid : ValidSegment p) : segmentParams p = some
    (if p[0] = 0 then .A else .B, if p[1] = 0 then false else true,
      { stretch := p[2], abandon := p[3], quota := p[4] }) := by
  obtain ⟨segment, power, inRange⟩ := valid
  simp only [segmentParams, segOfCode_eq, powerOfCode_eq, segment, power, if_true]
  exact if_pos inRange

theorem segmentParams_of_not_valid {p : Params} (invalid : ¬ ValidSegment p) : segmentParams p = none := by
  unfold segmentParams
  split
  · rename_i segment power
    rw [segOfCode_eq] at segment
    rw [powerOfCode_eq] at power
    split
    · rename_i inRange
      refine absurd ⟨?_, ?_, inRange⟩ invalid
      · by_contra large
        simp [large] at segment
      · by_contra large
        simp [large] at power
    · rfl
  · rfl

section Segment

variable {g : Seg} {c : SegConfig}

/-- Power ON on a bound segment waits (R68). -/
theorem State.checkSegment_await (values : segmentParams s.engine.latched = some (g, true, c)) {t : Txn}
    (txn : (s.seg g).txn = some t) : s.checkSegment = s.await g (.segment c) := by
  simp [State.checkSegment, values, Segment.bound_of_txn txn]

/-- Power ON on an unbound segment takes the values at once (R68). -/
theorem State.checkSegment_on (values : segmentParams s.engine.latched = some (g, true, c))
    (unbound : (s.seg g).txn = none) : s.checkSegment = (s.setSeg g ((s.seg g).turnOn c)).complete .ok := by
  simp [State.checkSegment, values, (Segment.bound_eq_false_iff _).2 unbound, State.onSeg]

/-- Power OFF (R67). -/
theorem State.checkSegment_off (values : segmentParams s.engine.latched = some (g, false, c)) :
    s.checkSegment = (s.turnOff g c).complete .ok := by
  simp [State.checkSegment, values]

end Segment

theorem State.turnOff_of_unbound {g : Seg} (unbound : (s.seg g).txn = none) (c : SegConfig) :
    s.turnOff g c = s.setSeg g { Safety.unbound .off (s.seg g) with config := c } := by
  rw [State.turnOff, State.abandon_of_unbound .off unbound]
  rfl

/-- Power OFF on a bound segment, with no command waiting, is an abandonment with the new values (R63, R67). -/
theorem State.turnOff_of_bound {g : Seg} {t : Txn} (txn : (s.seg g).txn = some t)
    (free : ∀ h, s.engine.state ≠ .waiting g h) (c : SegConfig) : s.turnOff g c =
      (State.post { s with pool := { s.pool with free := s.pool.free + s.pool.reserved g }.setReserved g 0 }
        .transactionAbandoned).setSeg g { Safety.unbound .off (s.seg g) with
          config := c, counters := (s.seg g).counters.countAbandoned } := by
  rw [State.turnOff, State.abandon_of_bound .off txn, State.endTransaction_abandoned (by simpa [State.onSeg] using free)]
  cases g <;> rfl

/-- Settles O52. -/
theorem segmentConfiguresOrWaits : Obligations.SegmentConfiguresOrWaits := by
  intro s running p valid c g x
  have taken : exec .segment s = .next s.checkSegment :=
    congrArg Host.Outcome.next (State.atCheck_eq_of_running running _)
  have values (h : valid) : segmentParams s.engine.latched = some (g, if p[1] = 0 then false else true, c) :=
    segmentParams_of_valid h
  have off (h : valid) (power : p[1] = 0) : segmentParams s.engine.latched = some (g, false, c) := by
    rw [values h, if_pos power]
  have on (h : valid) (power : p[1] = 1) : segmentParams s.engine.latched = some (g, true, c) := by
    rw [values h, if_neg (by rw [power]; decide)]
  have free (h : Held) : s.engine.state ≠ .waiting g h := by
    obtain ⟨-, state, -⟩ := running
    rw [state]
    simp
  rw [taken]
  refine ⟨fun invalid => ?_, fun h power => ⟨fun unbound => ?_, fun t txn => ?_⟩,
    fun h power => ⟨fun state => ?_, fun mem => ?_, fun t txn => ?_⟩⟩
  · rw [State.checkSegment, segmentParams_of_not_valid invalid]
  · rw [State.checkSegment_off (off h power), State.turnOff_of_unbound unbound]
  · rw [State.checkSegment_off (off h power), State.turnOff_of_bound txn free]
    rfl
  · have unbound : x.txn = none := by rw [Segment.txn, state]; rfl
    rw [State.checkSegment_on (on h power) unbound, Segment.turnOn_of_off state]
    rfl
  · have unbound : x.txn = none ∧ x.state ≠ .off := by
      simp only [List.mem_cons, List.not_mem_nil, or_false] at mem
      rcases mem with state | state | state <;> simp [Segment.txn, SegState.txn, state]
    rw [State.checkSegment_on (on h power) unbound.1, Segment.turnOn_of_not_off unbound.2]
  · rw [State.checkSegment_await (on h power) txn]
    rfl

/-! ## CLEAR_COUNTERS (R70) -/

/-- The scope: 0 for both segments, 1 for A, 2 for B. -/
theorem counterScopeOfCode_eq (b : Byte) : counterScopeOfCode b =
    if b.toNat ≤ 2 then some (decide (b.toNat ≠ 2), decide (b.toNat ≠ 1)) else none := by
  revert b
  decide

/-- Settles O53. -/
theorem clearCountersZeroesItsScope : Obligations.ClearCountersZeroesItsScope := by
  intro s running v zeroed
  have taken : exec .clearCounters s = .next s.checkClearCounters :=
    congrArg Host.Outcome.next (State.atCheck_eq_of_running running _)
  rw [taken]
  refine ⟨fun large => ?_, fun small => ?_, rfl⟩
  · have refused : counterScopeOfCode s.engine.latched[0] = none := by
      rw [counterScopeOfCode_eq, if_neg (show ¬ v ≤ 2 by omega)]
    simp only [State.checkClearCounters, refused]
  · have scope : counterScopeOfCode s.engine.latched[0] = some (decide (v ≠ 2), decide (v ≠ 1)) := by
      rw [counterScopeOfCode_eq, if_pos small]
    simp only [State.checkClearCounters, scope]
    by_cases two : v = 2
    · simp [two]
      rfl
    · by_cases one : v = 1
      · simp [one]
        rfl
      · simp [one, two]
        rfl

end Sys2Proof.Machine
end

section
/-! PROOFS. A commit: the numbers its records take (O25), and the whole next state with its events (O26). -/

namespace Sys2Proof.Machine

open Sys2Proof.Safety

/-! ## The value after a number (R95) -/

/-- Fewer than 256 used numbers leave a free one among the 256 values from `v` on. -/
theorem exists_unused {used : List Byte} (few : used.length < 256) (v : Byte) :
    ∃ d, d < 256 ∧ v + BitVec.ofNat 8 d ∉ used := by
  by_contra all
  push Not at all
  have distinct : ((List.range 256).map fun d => v + BitVec.ofNat 8 d).Nodup :=
    List.nodup_range.map_on fun a ha b hb same => by
      rw [List.mem_range] at ha hb
      bv_omega
  have within : (List.range 256).map (fun d => v + BitVec.ofNat 8 d) ⊆ used := by
    intro w mem
    obtain ⟨d, small, rfl⟩ := List.mem_map.1 mem
    exact all d (List.mem_range.1 small)
  have many := (distinct.subperm within).length_le
  rw [List.length_map, List.length_range] at many
  omega

/-- The search passes over used numbers and stops at the first that is not used. -/
theorem firstUnused_eq {used : List Byte} {d : Nat} : ∀ {fuel : Nat} {v : Byte}, d ≤ fuel →
    (∀ e < d, v + BitVec.ofNat 8 e ∈ used) → v + BitVec.ofNat 8 d ∉ used →
    firstUnused used fuel v = v + BitVec.ofNat 8 d := by
  induction d with
  | zero =>
    intro fuel v _ _ free
    rw [BitVec.add_zero] at free ⊢
    cases fuel <;> simp [firstUnused, free]
  | succ d ih =>
    intro fuel v enough passed free
    have shift (e : Nat) : v + 1 + BitVec.ofNat 8 e = v + BitVec.ofNat 8 (e + 1) := by bv_omega
    obtain ⟨fuel, rfl⟩ := Nat.exists_eq_add_of_le' (Nat.lt_of_lt_of_le d.succ_pos enough)
    have first : v ∈ used := by simpa using passed 0 d.succ_pos
    rw [firstUnused, if_pos (by simpa using first), ← shift]
    refine ih (by omega) (fun e less => ?_) (by rwa [shift])
    rw [shift]
    exact passed (e + 1) (by omega)

/-- The counter moves to the value after its own, as R95 has it. -/
theorem isValueAfter_valueAfter {used : List Byte} (few : used.length < 256) (v : Byte) :
    IsValueAfter used v (valueAfter used v) := by
  have some := exists_unused few (v + 1)
  obtain ⟨small, free⟩ := Nat.find_spec some
  have shift (e : Nat) : v + 1 + BitVec.ofNat 8 e = v + BitVec.ofNat 8 (e + 1) := by bv_omega
  have passed (e : Nat) (less : e < Nat.find some) : v + 1 + BitVec.ofNat 8 e ∈ used := by
    by_contra unused
    exact Nat.find_min some less ⟨by omega, unused⟩
  have found : valueAfter used v = v + BitVec.ofNat 8 (Nat.find some + 1) := by
    rw [valueAfter, firstUnused_eq (by omega) passed free, shift]
  rw [found]
  refine ⟨by rwa [← shift], Nat.find some + 1, by omega, by omega, rfl, fun e one less => ?_⟩
  obtain ⟨e, rfl⟩ := Nat.exists_eq_add_of_le' one
  rw [← shift]
  exact passed e (by omega)

/-! ## The numbers of a commit (R85, R95) -/

/-- The numbers that the records of a commit take, in turn. -/
def InboundQueue.given (cause : CommitCause) (q : InboundQueue) : List OpenRecord → List Byte
  | [] => []
  | r :: rest => q.counter :: (q.push cause r).given cause rest

section Given

variable {cause : CommitCause}

@[simp] theorem InboundQueue.given_length (l : List OpenRecord) :
    ∀ q : InboundQueue, (q.given cause l).length = l.length := by
  induction l with
  | nil => intro q; rfl
  | cons r rest ih => intro q; simp [given, ih]

@[simp] theorem InboundQueue.push_numbers (q : InboundQueue) (r : OpenRecord) :
    (q.push cause r).numbers = q.numbers ++ [q.counter] := by
  simp [push, numbers]

/-- The records of a commit join the tail in their order, with the end cause and the numbers given to them. -/
theorem InboundQueue.pushAll_records (l : List OpenRecord) : ∀ q : InboundQueue,
    (pushAll cause q l).records = q.records
      ++ (l.zip (q.given cause l)).map (fun rn => { body := rn.1, cause := cause, number := rn.2 }) := by
  induction l with
  | nil => intro q; simp [pushAll, given]
  | cons r rest ih => intro q; simp [pushAll, given, ih, push]

theorem InboundQueue.pushAll_threshold (l : List OpenRecord) :
    ∀ q : InboundQueue, (pushAll cause q l).threshold = q.threshold := by
  induction l with
  | nil => intro q; rfl
  | cons r rest ih => exact fun q => ih (q.push cause r)

theorem InboundQueue.pushAll_emptyPop (l : List OpenRecord) :
    ∀ q : InboundQueue, (pushAll cause q l).emptyPop = q.emptyPop := by
  induction l with
  | nil => intro q; rfl
  | cons r rest ih => exact fun q => ih (q.push cause r)

/-- The counter's value comes first: it is the first number given, or with no record it stays the counter's. -/
theorem InboundQueue.counters_head (q : InboundQueue) (l : List OpenRecord) :
    (q.given cause l ++ [(pushAll cause q l).counter])[0]? = some q.counter := by
  cases l <;> rfl

/-- Of the numbers given and the counter left behind, each next one is the value after the one before it. -/
theorem InboundQueue.isValueAfter_next (l : List OpenRecord) : ∀ (q : InboundQueue) (i : Nat) (m n : Byte),
    q.records.length + l.length ≤ 32 →
    (q.given cause l ++ [(pushAll cause q l).counter])[i]? = some m →
    (q.given cause l ++ [(pushAll cause q l).counter])[i + 1]? = some n →
    IsValueAfter (q.numbers ++ (q.given cause l).take (i + 1)) m n := by
  induction l with
  | nil => intro q i m n _ _ second; simp [given] at second
  | cons r rest ih =>
    intro q i m n fits first second
    rw [List.length_cons] at fits
    rw [given, pushAll, List.cons_append, List.getElem?_cons_succ] at second
    cases i with
    | zero =>
      rw [counters_head] at second
      cases first
      cases second
      have few : (q.numbers ++ [q.counter]).length < 256 := by
        simp only [numbers, List.length_append, List.length_map, List.length_singleton]
        omega
      simpa [given, push] using isValueAfter_valueAfter few q.counter
    | succ i =>
      have depth : (q.push cause r).records.length = q.records.length + 1 := by simp [push]
      have after := ih (q.push cause r) i m n (by omega) first second
      rwa [push_numbers, List.append_assoc] at after

end Given

/-- Settles O25: the numbers are those of `InboundQueue.given`. -/
theorem committedRecordsAreNumberedInTurn : Obligations.CommittedRecordsAreNumberedInTurn := by
  intro q cause l nonempty fits
  have size := InboundQueue.given_length (cause := cause) l q
  have next (i : Nat) (m n : Byte) := InboundQueue.isValueAfter_next (cause := cause) l q i m n fits
  refine ⟨q.given cause l, size, InboundQueue.pushAll_records l q, ?_, fun i m n first second => ?_,
    fun n last => ?_, InboundQueue.pushAll_threshold l q, InboundQueue.pushAll_emptyPop l q⟩
  · cases l with
    | nil => exact absurd rfl nonempty
    | cons r rest => rfl
  · exact next i m n (by rw [List.getElem?_append_left (List.getElem?_eq_some_iff.1 first).1, first])
      (by rw [List.getElem?_append_left (List.getElem?_eq_some_iff.1 second).1, second])
  · have some : 0 < (q.given cause l).length := by
      rw [size]
      exact List.length_pos_iff.2 nonempty
    have after := next ((q.given cause l).length - 1) n (InboundQueue.pushAll cause q l).counter
      (by rw [List.getElem?_append_left (by omega), ← List.getLast?_eq_getElem?, last])
      (by rw [Nat.sub_add_cancel some]; simp)
    rwa [Nat.sub_add_cancel some, List.take_length] at after

/-! ## The commit (R85, R87, R97, R101) -/

/-- Settles O26. -/
theorem commitPostsArrivalAndLevel : Obligations.CommitPostsArrivalAndLevel := by
  intro s g cause l d s'
  refine ⟨fun none => ?_, fun nonempty => ?_⟩
  · subst none
    exact State.commitRecords_nil s g cause
  · have some : l.isEmpty = false := by simpa using nonempty
    simp only [State.commitRecords, some, InboundQueue.pushAll_length, Bool.false_eq_true, if_false]
    unfold State.postQueueEvents
    by_cases empty : s.queue.records.length = 0 <;> simp [d, s', empty, InboundQueue.pushAll_threshold]

end Sys2Proof.Machine
end

section
/-! PROOFS. What the laws of the cells, of the counts and of records speak about (O7): each segment's open
records, the pool, the queued records and the window's counts. `State.cellView` takes these out of a state, and
`CellView.Lawful` says the laws of it. -/

namespace Sys2Proof.Machine

open Sys2Proof.Safety

/-- The open records a segment state holds; a state without a transaction holds none (R76). -/
def SegState.opened (x : SegState) : List OpenRecord :=
  match x.txn with
  | some t => t.records
  | none => []

/-- The part of a state that the laws of the cells, of the counts and of records name. -/
structure CellView where
  opened : Seg → List OpenRecord
  pool : Pool
  queued : List QueuedRecord
  threshold : Nat
  dataIndex : Nat
  staging : List Byte
  overlong : Bool

/-- The view of a state. -/
def State.cellView (s : State) : CellView where
  opened g := (s.seg g).state.opened
  pool := s.pool
  queued := s.queue.records
  threshold := s.queue.threshold
  dataIndex := s.window.dataIndex
  staging := s.dru.staging
  overlong := s.dru.overlong

/-- The view with other open records of a segment. -/
def CellView.setOpened (v : CellView) (g : Seg) (l : List OpenRecord) : CellView :=
  { v with opened := Function.update v.opened g l }

/-! ## Open records -/

theorem SegState.opened_of_txn {x : SegState} {t : Txn} (txn : x.txn = some t) : x.opened = t.records := by
  simp [SegState.opened, txn]

theorem SegState.opened_of_unbound {x : SegState} (unbound : x.txn = none) : x.opened = [] := by
  simp [SegState.opened, unbound]

theorem openRecords_eq (x : Segment) : openRecords x = x.state.opened.length := by
  unfold openRecords SegState.opened Segment.txn
  cases x.state.txn <;> rfl

theorem SegState.mem_opened {x : SegState} {r : OpenRecord} :
    r ∈ x.opened ↔ ∃ t, x.txn = some t ∧ r ∈ t.records := by
  unfold SegState.opened
  cases x.txn <;> simp

/-! ## The view after an update of the view -/

@[simp] theorem CellView.setOpened_opened_same (v : CellView) (g : Seg) (l : List OpenRecord) :
    (v.setOpened g l).opened g = l := Function.update_self ..

theorem CellView.setOpened_opened_other (v : CellView) {g h : Seg} (l : List OpenRecord) (ne : h ≠ g) :
    (v.setOpened g l).opened h = v.opened h := Function.update_of_ne ne ..

theorem CellView.setOpened_of_eq {v : CellView} {g : Seg} {l : List OpenRecord} (same : l = v.opened g) :
    v.setOpened g l = v := by
  simp [CellView.setOpened, same]

/-! ## The view after an update of the state -/

@[simp] theorem State.cellView_setSeg (s : State) (g : Seg) (x : Segment) :
    (s.setSeg g x).cellView = s.cellView.setOpened g x.state.opened := by
  have opened : (s.setSeg g x).cellView.opened = Function.update s.cellView.opened g x.state.opened := by
    funext h
    simp only [State.cellView, State.setSeg_seg, Function.update_apply]
    split <;> rfl
  simp only [CellView.setOpened, ← opened]
  cases g <;> rfl

@[simp] theorem State.cellView_onSeg (s : State) (g : Seg) (f : Segment → Segment) :
    (s.onSeg g f).cellView = s.cellView.setOpened g (f (s.seg g)).state.opened := State.cellView_setSeg ..

/-- A change of a segment that keeps its open records is not seen. -/
theorem State.cellView_onSeg_of_opened {s : State} {g : Seg} {f : Segment → Segment}
    (same : (f (s.seg g)).state.opened = (s.seg g).state.opened) : (s.onSeg g f).cellView = s.cellView := by
  rw [State.cellView_onSeg]
  exact CellView.setOpened_of_eq same

@[simp] theorem State.cellView_setLines (s : State) (g : Seg) (l : Lines) :
    (s.setLines g l).cellView = s.cellView := by
  cases g <;> rfl

@[simp] theorem State.cellView_lowerClock (s : State) (g : Seg) : (s.lowerClock g).cellView = s.cellView :=
  State.cellView_setLines ..

@[simp] theorem State.cellView_raiseClock (s : State) (g : Seg) (sda : Bool) :
    (s.raiseClock g sda).cellView = s.cellView := State.cellView_setLines ..

@[simp] theorem State.cellView_onEntry (s : State) (k : Fin 16) (f : Entry → Entry) :
    (s.onEntry k f).cellView = s.cellView := rfl

@[simp] theorem State.cellView_post (s : State) (k : EventKind) : (s.post k).cellView = s.cellView := rfl

@[simp] theorem State.cellView_complete (s : State) (r : ResultCode) : (s.complete r).cellView = s.cellView := rfl

theorem State.cellView_discardRecords (s : State) (g : Seg) : (s.discardRecords g).cellView =
    { s.cellView with
      pool := (s.cellView.pool.release (s.cellView.pool.reserved g)).setReserved g 0 } := rfl

/-- A commit moves the records to the queue, gives up the reserved cells and returns the data index to 0 or
leaves it (R85, R101). -/
theorem State.cellView_commitRecords (s : State) (g : Seg) (cause : CommitCause) (l : List OpenRecord) :
    ∃ index, (index = 0 ∨ index = s.cellView.dataIndex) ∧ (s.commitRecords g cause l).cellView =
      { s.cellView with
        pool := s.cellView.pool.setReserved g 0
        queued := (InboundQueue.pushAll cause s.queue l).records
        dataIndex := index } := by
  obtain ⟨none, some⟩ := commitPostsArrivalAndLevel s g cause l
  by_cases empty : l = []
  · rw [none empty, empty]
    exact ⟨s.window.dataIndex, .inr rfl, rfl⟩
  · have threshold := InboundQueue.pushAll_threshold (cause := cause) l s.queue
    refine ⟨if s.queue.records.length = 0 then 0 else s.window.dataIndex, ite_eq_or_eq .., ?_⟩
    simp only [some empty, apply_ite State.cellView, State.cellView_post, ite_self]
    simp only [State.cellView, threshold]
    rfl

/-! ## Counting cells -/

/-- The cells that are free or reserved. -/
def Pool.total (p : Pool) : Nat := p.free + p.reservedA + p.reservedB

theorem Pool.total_setReserved (p : Pool) (g : Seg) (n : Nat) :
    (p.setReserved g n).total + p.reserved g = p.total + n := by
  cases g <;> simp only [Pool.total, Pool.setReserved, Pool.reserved] <;> omega

theorem Pool.total_release (p : Pool) (n : Nat) : (p.release n).total = p.total + n := by
  simp only [Pool.total, Pool.release]
  omega

theorem Pool.total_reserve {p : Pool} (free : 1 ≤ p.free) (g : Seg) : (p.reserve g).total = p.total := by
  cases g <;> simp only [Pool.total, Pool.reserve, Pool.setReserved, Pool.reserved] <;> omega

@[simp] theorem Pool.setReserved_same (p : Pool) (g : Seg) (n : Nat) : (p.setReserved g n).reserved g = n := by
  cases g <;> rfl

theorem Pool.setReserved_other (p : Pool) {g h : Seg} (n : Nat) (ne : h ≠ g) :
    (p.setReserved g n).reserved h = p.reserved h := by
  rw [Pool.setReserved_reserved, Function.update_of_ne ne]

@[simp] theorem Pool.release_reserved (p : Pool) (n : Nat) : (p.release n).reserved = p.reserved := by
  funext g
  cases g <;> rfl

theorem Pool.reserve_same (p : Pool) (g : Seg) : (p.reserve g).reserved g = p.reserved g + 1 :=
  Pool.setReserved_same ..

theorem Pool.reserve_other (p : Pool) {g h : Seg} (ne : h ≠ g) : (p.reserve g).reserved h = p.reserved h := by
  rw [Pool.reserve, Pool.setReserved_other _ _ ne]
  cases h <;> rfl

/-! ## The laws of a view -/

/-- The laws of the cells, of the counts and of records, of a view. -/
structure CellView.Lawful (v : CellView) : Prop where
  total : v.pool.total + v.queued.length = Config.cellCount
  reserved : ∀ g, v.pool.reserved g = (v.opened g).length
  queuedLaw : ∀ q ∈ v.queued, RecordLaw q.body
  openLaw : ∀ g, ∀ r ∈ v.opened g, RecordLaw r
  threshold : 1 ≤ v.threshold ∧ v.threshold ≤ Config.cellCount
  dataIndex : v.dataIndex ≤ Config.maxDataIndex
  staging : v.staging.length ≤ Config.stagingBytes
  overlong : v.overlong = true → v.staging.length = Config.stagingBytes

/-- The laws of a state give those of its view. -/
theorem State.cellView_lawful {s : State} (cells : CellsAccounted s) (counts : CountsInRange s)
    (records : RecordsLawful s) : s.cellView.Lawful := by
  obtain ⟨total, reservedA, reservedB⟩ := cells
  obtain ⟨dataIndex, staging, -, low, high, overlong⟩ := counts
  obtain ⟨queuedLaw, openLaw⟩ := records
  refine ⟨total, fun g => ?_, queuedLaw, fun g r mem => ?_, ⟨low, high⟩, dataIndex, staging, overlong⟩
  · cases g with
    | A => exact reservedA.trans (openRecords_eq s.segA)
    | B => exact reservedB.trans (openRecords_eq s.segB)
  · obtain ⟨t, txn, own⟩ := SegState.mem_opened.1 mem
    exact openLaw g t txn r own

/-- The laws of a view are those of its state. -/
theorem CellView.Lawful.toState {s : State} (law : s.cellView.Lawful) :
    CellsAccounted s ∧ CountsInRange s ∧ RecordsLawful s := by
  obtain ⟨total, reserved, queuedLaw, openLaw, ⟨low, high⟩, dataIndex, staging, overlong⟩ := law
  exact ⟨⟨total, (reserved .A).trans (openRecords_eq s.segA).symm,
      (reserved .B).trans (openRecords_eq s.segB).symm⟩,
    ⟨dataIndex, staging, total ▸ Nat.le_add_left _ _, low, high, overlong⟩,
    queuedLaw, fun g t txn r mem => openLaw g r (SegState.mem_opened.2 ⟨t, txn, mem⟩)⟩

/-- The reset state keeps them: every cell is free and nothing is recorded or staged. -/
theorem CellView.lawful_reset : State.reset.cellView.Lawful where
  total := rfl
  reserved g := by cases g <;> rfl
  queuedLaw q mem := by cases mem
  openLaw g r mem := by cases g <;> cases mem
  threshold := by decide
  dataIndex := by decide
  staging := by decide
  overlong := by decide

namespace CellView.Lawful

variable {v : CellView} (law : v.Lawful) {g : Seg}
include law

/-- The cells of one segment and of the queue change hands: the segment holds a cell for each open record, the
other segment keeps its cells, and none is lost. -/
theorem exchange {l : List OpenRecord} {p : Pool} {q : List QueuedRecord} (own : p.reserved g = l.length)
    (other : ∀ h, h ≠ g → p.reserved h = v.pool.reserved h) (total : p.total + q.length = Config.cellCount)
    (openLaw : ∀ r ∈ l, RecordLaw r) (queuedLaw : ∀ r ∈ q, RecordLaw r.body) :
    { v.setOpened g l with pool := p, queued := q }.Lawful where
  total := total
  reserved h := by
    by_cases same : h = g
    · subst same; simpa using own
    · exact (other h same).trans ((law.reserved h).trans (by rw [setOpened_opened_other v l same]))
  queuedLaw := queuedLaw
  openLaw h := by
    by_cases same : h = g
    · subst same; simpa using openLaw
    · simpa only [setOpened_opened_other v l same] using law.openLaw h
  threshold := law.threshold
  dataIndex := law.dataIndex
  staging := law.staging
  overlong := law.overlong

/-- The open records change and their number stays (R80, R83). -/
theorem revise {l : List OpenRecord} (size : l.length = (v.opened g).length) (each : ∀ r ∈ l, RecordLaw r) :
    (v.setOpened g l).Lawful :=
  law.exchange ((law.reserved g).trans size.symm) (fun _ _ => rfl) law.total each law.queuedLaw

/-- A reserved cell takes a new open record (R77, R81). -/
theorem openRecord {r : OpenRecord} (free : 1 ≤ v.pool.free) (own : RecordLaw r) :
    { v.setOpened g (v.opened g ++ [r]) with pool := v.pool.reserve g }.Lawful := by
  refine law.exchange ?_ (fun h => Pool.reserve_other _) ?_ (fun q mem => ?_) law.queuedLaw
  · rw [Pool.reserve_same, law.reserved, List.length_append, List.length_singleton]
  · exact (congrArg (· + v.queued.length) (Pool.total_reserve free g)).trans law.total
  · rcases List.mem_append.1 mem with old | new
    · exact law.openLaw g q old
    · rwa [List.mem_singleton.1 new]

/-- The open records become free cells (R88). -/
theorem discard :
    { v.setOpened g [] with pool := (v.pool.release (v.pool.reserved g)).setReserved g 0 }.Lawful := by
  have counted := Pool.total_setReserved (v.pool.release (v.pool.reserved g)) g 0
  rw [Pool.total_release, Pool.release_reserved] at counted
  have before := law.total
  refine law.exchange (Pool.setReserved_same ..) (fun h ne => ?_) (q := v.queued) (by omega) (by simp)
    law.queuedLaw
  rw [Pool.setReserved_other _ _ ne, Pool.release_reserved]

/-- The open records become queued ones (R85). -/
theorem commit {q : List QueuedRecord} (size : q.length = v.queued.length + (v.opened g).length)
    (joined : ∀ r ∈ q, r ∈ v.queued ∨ r.body ∈ v.opened g) :
    { v.setOpened g [] with pool := v.pool.setReserved g 0, queued := q }.Lawful := by
  have counted := Pool.total_setReserved v.pool g 0
  have held := law.reserved g
  have before := law.total
  refine law.exchange (Pool.setReserved_same ..) (fun h => Pool.setReserved_other _ _) (by omega) (by simp)
    fun r mem => ?_
  exact (joined r mem).elim (law.queuedLaw r) (law.openLaw g r.body)

/-- Records leave the queue and their cells become free (R90). -/
theorem remove {q : List QueuedRecord} (kept : q.Sublist v.queued) :
    { v with queued := q, pool := v.pool.release (v.queued.length - q.length) }.Lawful where
  total := by
    have fewer := kept.length_le
    have before := law.total
    change (v.pool.release _).total + q.length = _
    rw [Pool.total_release]
    omega
  reserved h := (congrFun (Pool.release_reserved ..) h).trans (law.reserved h)
  queuedLaw r mem := law.queuedLaw r (kept.subset mem)
  openLaw := law.openLaw
  threshold := law.threshold
  dataIndex := law.dataIndex
  staging := law.staging
  overlong := law.overlong

theorem setIndex {n : Nat} (inRange : n ≤ Config.maxDataIndex) : { v with dataIndex := n }.Lawful :=
  { law with dataIndex := inRange }

theorem setThreshold {n : Nat} (inRange : 1 ≤ n ∧ n ≤ Config.cellCount) : { v with threshold := n }.Lawful :=
  { law with threshold := inRange }

/-- The staging list is emptied with its mark (R117). -/
theorem emptyStaging : { v with staging := [], overlong := false }.Lawful :=
  { law with staging := Nat.zero_le _, overlong := fun marked => by cases marked }

/-- A staged byte finds room, or marks a full list (R116). -/
theorem stage {d : ReadUnit} (staging : d.staging = v.staging) (overlong : d.overlong = v.overlong) (b : Byte) :
    { v with staging := (d.stage b).staging, overlong := (d.stage b).overlong }.Lawful := by
  have full := law.overlong
  have bounded := law.staging
  rw [← staging] at full bounded
  rw [← overlong] at full
  unfold ReadUnit.stage
  split
  · rename_i room
    refine { law with staging := ?_, overlong := fun marked => ?_ }
    · simpa using room
    · have := full marked
      omega
  · exact { law with staging := bounded, overlong := fun _ => by dsimp only; omega }

end CellView.Lawful

end Sys2Proof.Machine
end

section
/-! PROOFS. The events of the buses and of the Time Base keep the laws of the cells, of the counts and of
records. -/

namespace Sys2Proof.Machine

open Sys2Proof.Safety

/-- A state with the same view is as lawful. -/
theorem cellView_lawful_of_eq {s u : State} (law : s.cellView.Lawful) (same : u.cellView = s.cellView) :
    u.cellView.Lawful := same ▸ law

/-! ## Records -/

@[simp] theorem length_mapLast {α : Type} (f : α → α) (l : List α) : (mapLast f l).length = l.length := by
  fun_induction mapLast f l with
  | case1 => rfl
  | case2 a => rfl
  | case3 a b rest ih => simp [ih]

/-- A property of every item of a list holds after the last was changed, if it holds of the changed one. -/
theorem forall_mem_mapLast {α : Type} {P : α → Prop} {f : α → α} {l : List α} (each : ∀ a ∈ l, P a)
    (changed : ∀ a, l.getLast? = some a → P (f a)) : ∀ a ∈ mapLast f l, P a := by
  intro a mem
  rw [mapLast_eq, List.mem_append] at mem
  rcases mem with older | new
  · exact each a (List.dropLast_subset l older)
  · obtain ⟨b, last, rfl⟩ := List.mem_map.1 new
    exact changed b (Option.mem_toList.1 last)

/-- A record that a byte extends stays within a cell and within sub-address 255 (R80). -/
theorem recordLaw_append {r : OpenRecord} {unrecorded : Bool} {p : Byte}
    (extending : r.extendsTo unrecorded p = true) (b : Byte) : RecordLaw (r.append b) := by
  obtain ⟨room, place, -⟩ := (r.extendsTo_iff ..).1 extending
  have size : (r.append b).data.length = r.data.length + 1 := by simp [OpenRecord.append]
  have start : (r.append b).start = r.start := rfl
  unfold RecordLaw Config.cellBytes
  rw [size, start]
  omega

/-- A record opens with one byte (R81). -/
theorem recordLaw_newRecord (g : Seg) (e : Entry) (t : Txn) (b : Byte) : RecordLaw (newRecord g e t b) := by
  refine ⟨Nat.le_refl _, (by decide : 1 ≤ Config.cellBytes), ?_⟩
  exact e.pointer.isLt

/-! ## The end of a transaction (4.7) -/

/-- What a waiting command does at the end touches no cell and no record. -/
@[simp] theorem State.cellView_completeWaiting (s : State) (g : Seg) :
    (s.completeWaiting g).cellView = s.cellView := by
  rcases State.completeWaiting_cases s g with ⟨h, -, equal⟩ | ⟨-, equal⟩
  · rw [equal, State.cellView_complete]
    cases h with
    | disable | regions | imagePut => rfl
    | segment c => exact State.cellView_onSeg_of_opened rfl
  · rw [equal]

/-- A committed queue holds the records it held and the committed ones. -/
theorem InboundQueue.mem_pushAll {cause : CommitCause} {q : InboundQueue} {l : List OpenRecord} {r : QueuedRecord}
    (mem : r ∈ (pushAll cause q l).records) : r ∈ q.records ∨ r.body ∈ l := by
  rw [pushAll_records, List.mem_append] at mem
  refine mem.imp id fun joined => ?_
  obtain ⟨rn, pair, rfl⟩ := List.mem_map.1 joined
  exact (List.of_mem_zip pair).1

section Laws

variable {s : State} (law : s.cellView.Lawful) {g : Seg}
include law

/-- The end of a segment's transaction queues its reserved cells, or frees them (R64, R85, R88). -/
theorem State.endTransaction_cellLawful {t : Txn} (txn : (s.seg g).txn = some t) (cause : EndCause)
    {after : SegState} (free : after.txn = none) : (s.endTransaction g t cause after).cellView.Lawful := by
  have opened : s.cellView.opened g = t.records := SegState.opened_of_txn txn
  have closed : (s.onSeg g (Segment.unbind after)).cellView = s.cellView.setOpened g [] :=
    (State.cellView_onSeg ..).trans (congrArg _ (SegState.opened_of_unbound free))
  have queue : (s.onSeg g (Segment.unbind after)).queue = s.queue := State.setSeg_queue ..
  unfold State.endTransaction
  rw [State.cellView_completeWaiting]
  cases cause with
  | commit c =>
    obtain ⟨index, place, view⟩ :=
      State.cellView_commitRecords (s.onSeg g (Segment.unbind after)) g c t.records
    rw [closed, queue] at view
    rw [closed] at place
    have inRange : index ≤ Config.maxDataIndex := by
      rcases place with rfl | rfl
      · exact Nat.zero_le _
      · exact law.dataIndex
    have committed := law.commit (g := g) (q := (InboundQueue.pushAll c s.queue t.records).records)
      (opened ▸ InboundQueue.pushAll_length ..) fun r mem => opened ▸ InboundQueue.mem_pushAll mem
    dsimp only
    rw [view]
    exact committed.setIndex inRange
  | abandoned =>
    dsimp only
    rw [State.cellView_discardRecords, closed]
    exact law.discard

theorem State.abandon_cellLawful (g : Seg) {after : SegState} (free : after.txn = none) :
    (s.abandon g after).cellView.Lawful := by
  cases txn : (s.seg g).txn with
  | none => rwa [State.abandon_of_unbound after txn]
  | some t =>
    rw [State.abandon_of_bound after txn]
    refine State.endTransaction_cellLawful (cellView_lawful_of_eq law ?_) ?_ _ free
    · rw [State.cellView_post]
      exact State.cellView_onSeg_of_opened rfl
    · rw [State.post_seg, State.onSeg, State.setSeg_seg_same]
      exact txn

/-! ## START and STOP -/

theorem State.endByCondition_cellLawful {t : Txn} (txn : (s.seg g).txn = some t) (cause : CommitCause)
    {after : SegState} (free : after.txn = none) : (s.endByCondition g t cause after).cellView.Lawful := by
  unfold State.endByCondition
  split
  · refine State.endTransaction_cellLawful (cellView_lawful_of_eq law ?_) ?_ _ free
    · rw [State.cellView_post]
      exact State.cellView_onSeg_of_opened rfl
    · rw [State.post_seg, State.onSeg, State.setSeg_seg_same]
      exact txn
  · exact State.endTransaction_cellLawful law txn _ free

/-- An unbound segment passes to another state without a transaction. -/
theorem State.unbind_cellLawful {after : SegState} (unbound : (s.seg g).txn = none) (free : after.txn = none) :
    (s.onSeg g (Segment.unbind after)).cellView.Lawful :=
  cellView_lawful_of_eq law (State.cellView_onSeg_of_opened
    ((SegState.opened_of_unbound free).trans (SegState.opened_of_unbound unbound).symm))

theorem State.recogniseStart_cellLawful (g : Seg) : (s.recogniseStart g).cellView.Lawful := by
  have unbinds (unbound : (s.seg g).state.txn = none) :=
    State.unbind_cellLawful (after := .address) law unbound rfl
  have ends (t : Txn) (txn : (s.seg g).state.txn = some t) :=
    State.endByCondition_cellLawful (after := .address) law txn .repeatedStart rfl
  unfold State.recogniseStart
  split
  case h_1 | h_9 => exact law
  case h_2 state | h_3 state | h_4 state => exact unbinds (by rw [state]; rfl)
  case h_5 state | h_6 state | h_7 state | h_8 state | h_10 state => exact ends _ (by rw [state]; rfl)

theorem State.recogniseStop_cellLawful (g : Seg) : (s.recogniseStop g).cellView.Lawful := by
  have unbinds (unbound : (s.seg g).state.txn = none) :=
    State.unbind_cellLawful (after := .idle) law unbound rfl
  have ends (t : Txn) (txn : (s.seg g).state.txn = some t) :=
    State.endByCondition_cellLawful (after := .idle) law txn .stop rfl
  unfold State.recogniseStop
  split
  case h_1 | h_2 | h_9 => exact law
  case h_3 state | h_4 state => exact unbinds (by rw [state]; rfl)
  case h_5 state | h_6 state | h_7 state | h_8 state | h_10 state => exact ends _ (by rw [state]; rfl)

theorem State.startCondition_cellLawful (g : Seg) : (s.startCondition g).cellView.Lawful := by
  have moved (l : Lines) := cellView_lawful_of_eq law (State.cellView_setLines s g l)
  unfold State.startCondition
  dsimp only
  split
  · split
    · exact moved _
    · exact State.recogniseStart_cellLawful (moved _) g
  · exact law

theorem State.stopCondition_cellLawful (g : Seg) : (s.stopCondition g).cellView.Lawful := by
  have moved (l : Lines) := cellView_lawful_of_eq law (State.cellView_setLines s g l)
  unfold State.stopCondition
  dsimp only
  split
  · split
    · exact moved _
    · exact State.recogniseStop_cellLawful (moved _) g
  · exact law

end Laws

/-! ## Events that leave the open records as they are -/

section Same

variable {s : State} {g : Seg}

/-- A change of a bound segment that keeps the records of its transaction is not seen. -/
theorem State.cellView_onSeg_of_records {u : State} {t t' : Txn} {f : Segment → Segment}
    (view : u.cellView = s.cellView) (txn : (s.seg g).txn = some t) (stays : (f (u.seg g)).txn = some t')
    (same : t'.records = t.records) : (u.onSeg g f).cellView = s.cellView := by
  have before : (u.seg g).state.opened = (s.seg g).state.opened := congrArg (fun v => CellView.opened v g) view
  rw [← view]
  refine State.cellView_onSeg_of_opened ?_
  rw [SegState.opened_of_txn stays, before, SegState.opened_of_txn txn, same]

/-- A segment binds with no open record (R50). -/
theorem State.cellView_completeAddress (state : (s.seg g).state = .address) :
    (s.completeAddress g).cellView = s.cellView := by
  have unbound : (s.seg g).state.opened = [] := by rw [state]; rfl
  have none {f : Segment → Segment} (empty : (f (s.seg g)).state.opened = []) :
      ((s.lowerClock g).onSeg g f).cellView = s.cellView := by
    rw [← State.cellView_lowerClock s g]
    exact State.cellView_onSeg_of_opened (by rw [State.lowerClock_seg, empty, unbound])
  have fresh (k : Fin 16) (b : Byte) : (boundState (newTxn k b)).opened = [] := by
    unfold boundState
    split <;> rfl
  unfold State.completeAddress
  dsimp only
  split
  · exact none (fresh _ _)
  · exact none rfl
  · exact none rfl

variable {t : Txn} (txn : (s.seg g).txn = some t)
include txn

theorem State.cellView_completeSubAddress : (s.completeSubAddress g t).cellView = s.cellView :=
  State.cellView_onSeg_of_records (t' := t) (State.cellView_lowerClock ..) txn rfl rfl

theorem State.cellView_completeRefused : (s.completeRefused g t).cellView = s.cellView :=
  State.cellView_onSeg_of_records (t' := t) (State.cellView_lowerClock ..) txn rfl rfl

theorem State.cellView_takeMasterAck (sda : Bool) : (s.takeMasterAck g t sda).cellView = s.cellView := by
  refine State.cellView_onSeg_of_records (t' := t) (State.cellView_raiseClock ..) txn ?_ rfl
  simp only [Segment.txn, Segment.busActivity]
  split <;> rfl

theorem State.cellView_createRequest {u : State} (view : u.cellView = s.cellView) {t' : Txn}
    (same : t'.records = t.records) (position : Byte) : (u.createRequest g t' position).cellView = s.cellView := by
  have stretched (r : Request) := State.cellView_onSeg_of_records (f := Segment.stretch t' r) view txn rfl same
  cases g <;> exact stretched _

theorem State.cellView_needByte {u : State} (view : u.cellView = s.cellView) :
    (u.needByte g t).cellView = s.cellView := by
  rcases State.needByte_cases u g t with ⟨ahead, b, equal⟩ | ⟨b, equal⟩ | equal
  · rw [equal]; exact State.cellView_onSeg_of_records view txn rfl rfl
  · rw [equal]; exact State.cellView_onSeg_of_records view txn rfl rfl
  · rw [equal]; exact State.cellView_createRequest txn view (by rfl) t.position

theorem State.cellView_takeByteNeed : (s.takeByteNeed g t).cellView = s.cellView :=
  State.cellView_needByte txn ((State.cellView_onSeg_of_opened rfl).trans (State.cellView_lowerClock ..))

theorem State.cellView_deliver (r : Request) (bytes : List Byte) : (s.deliver g t r bytes).cellView = s.cellView :=
  State.cellView_onSeg_of_records rfl txn rfl rfl

theorem State.cellView_expireStretch (r : Request) : (s.expireStretch g t r).cellView = s.cellView :=
  State.cellView_onSeg_of_records rfl txn rfl rfl

end Same

theorem State.cellView_takeWriteAck (s : State) (g : Seg) (t : Txn) (sda : Bool) :
    (s.takeWriteAck g t sda).cellView = s.cellView :=
  (State.cellView_onSeg_of_opened rfl).trans (State.cellView_raiseClock ..)

theorem State.cellView_clockEdge (s : State) (g : Seg) (edge : ClockEdge) :
    (s.clockEdge g edge).cellView = s.cellView := by
  unfold State.clockEdge
  cases edge with
  | rise sda =>
    dsimp only
    split
    · split <;> simp
    · split
      · refine (State.cellView_onSeg_of_opened ?_).trans (State.cellView_raiseClock ..)
        exact congrArg SegState.opened (Segment.takeRise_state ..)
      · rfl
  | fall =>
    dsimp only
    split
    · split <;> simp
    · split
      · refine (State.cellView_onSeg_of_opened ?_).trans (State.cellView_lowerClock ..)
        exact congrArg SegState.opened (Segment.takeFall_state _)
      · rfl

/-! ## Bytes of a write transaction, and ticks -/

section Laws

variable {s : State} (law : s.cellView.Lawful) {g : Seg} {t : Txn} (txn : (s.seg g).txn = some t)
include law txn

/-- The open records of a bound segment are revised, or stay (R80, R83). -/
theorem State.revise_cellLawful {f : Segment → Segment} {t' : Txn} (stays : (f (s.seg g)).txn = some t')
    (size : t'.records.length = t.records.length) (each : ∀ r ∈ t'.records, RecordLaw r) :
    (s.onSeg g f).cellView.Lawful := by
  rw [State.cellView_onSeg, SegState.opened_of_txn stays]
  refine law.revise ?_ each
  rw [size]
  exact congrArg List.length (SegState.opened_of_txn txn).symm

theorem Txn.records_lawful : ∀ r ∈ t.records, RecordLaw r :=
  fun r mem => law.openLaw g r (SegState.mem_opened.2 ⟨t, txn, mem⟩)

theorem State.refuseByte_cellLawful : (s.refuseByte g t.cutLast).cellView.Lawful :=
  State.revise_cellLawful law txn (t' := t.cutLast) rfl (length_mapLast ..)
    (forall_mem_mapLast (Txn.records_lawful law txn)
      fun r last => Txn.records_lawful law txn r (List.mem_of_getLast? last))

/-- A byte that is recorded extends the last record, opens one in a free cell, or is refused (R77, R80 to R83). -/
theorem State.recordByte_cellLawful (applied : Bool) : (s.recordByte g t applied).cellView.Lawful := by
  have written (u : State) (k : Fin 16) (b : Byte) :
      (if applied then u.applyByte k b else u).cellView = u.cellView := by
    cases applied <;> rfl
  have each := Txn.records_lawful law txn
  have opened : s.cellView.opened g = t.records := SegState.opened_of_txn txn
  have accepted (u : State) (t' : Txn) :
      (u.acceptByte g t').cellView = u.cellView.setOpened g t'.records := State.cellView_onSeg ..
  unfold State.recordByte
  dsimp only
  rcases State.recording_cases s g t with ⟨place, r, last, extending⟩ | ⟨place, grants⟩ | ⟨place, -⟩
  · simp only [place, accepted, written]
    refine law.revise ((length_mapLast ..).trans (congrArg _ opened.symm))
      (forall_mem_mapLast each fun q found => ?_)
    cases last.symm.trans found
    exact recordLaw_append extending _
  · have free := ((Pool.grants_iff ..).1 grants).1
    have lawful := law.openRecord (g := g) free (recordLaw_newRecord g (s.entry t.target) t (s.seg g).shift)
    simp only [place, accepted, written]
    rw [opened] at lawful
    have view : { s with pool := s.pool.reserve g }.cellView = { s.cellView with pool := s.pool.reserve g } := rfl
    rw [view]
    exact lawful
  · simp only [place, State.cellView_post]
    exact State.refuseByte_cellLawful law txn

theorem State.completeData_cellLawful : (s.completeData g t).cellView.Lawful := by
  have lowered := cellView_lawful_of_eq law (State.cellView_lowerClock s g)
  have still : ((s.lowerClock g).seg g).txn = some t := by rwa [State.lowerClock_seg]
  rcases State.completeData_cases s g t with equal | equal | ⟨applied, equal⟩
  · rw [equal]; exact State.refuseByte_cellLawful lowered still
  · rw [equal]
    exact State.revise_cellLawful (s := (s.lowerClock g).applyByte t.target _) lowered still (t' := t.passOver)
      rfl rfl (Txn.records_lawful (t := t) law txn)
  · rw [equal]; exact State.recordByte_cellLawful lowered still applied

end Laws

theorem State.tickSegment_cellLawful {s : State} (law : s.cellView.Lawful) (g : Seg) :
    (s.tickSegment g).cellView.Lawful := by
  unfold State.tickSegment
  split
  · rename_i t r state
    have txn : (s.seg g).txn = some t := by rw [Segment.txn, state]; rfl
    split
    · exact cellView_lawful_of_eq law (State.cellView_expireStretch txn r)
    · exact cellView_lawful_of_eq law (State.cellView_onSeg_of_records rfl txn rfl rfl)
  · split
    · exact law
    · split
      · exact State.abandon_cellLawful law g rfl
      · exact cellView_lawful_of_eq law (State.cellView_onSeg_of_opened rfl)

end Sys2Proof.Machine
end

section
/-! PROOFS. The completion checks and the host accesses keep the laws of the cells, of the counts and of records,
and with them every command and every step does (O7). -/

namespace Sys2Proof.Machine

open Sys2Proof.Safety

/-! ## Completion checks that reach no cell and no count -/

theorem State.cellView_checkDefine (s : State) : s.checkDefine.cellView = s.cellView := by
  unfold State.checkDefine
  split
  · rfl
  split
  · rfl
  split
  · rfl
  split <;> rfl

theorem State.cellView_checkEnable (s : State) : s.checkEnable.cellView = s.cellView := by
  unfold State.checkEnable
  split
  · rfl
  split
  · rfl
  split <;> rfl

theorem State.cellView_checkRelease (s : State) : s.checkRelease.cellView = s.cellView := by
  unfold State.checkRelease
  split
  · rfl
  split <;> rfl

theorem State.cellView_checkVtQuery (s : State) : s.checkVtQuery.cellView = s.cellView := by
  unfold State.checkVtQuery
  split
  · rfl
  split
  · rfl
  split <;> rfl

theorem State.cellView_checkRegions (s : State) : s.checkRegions.cellView = s.cellView := by
  unfold State.checkRegions
  split
  · rfl
  split
  · rfl
  split
  · rfl
  split
  · rfl
  split <;> rfl

theorem State.cellView_checkImagePut (s : State) : s.checkImagePut.cellView = s.cellView := by
  unfold State.checkImagePut
  dsimp only
  split
  · rfl
  split
  · rfl
  split
  · rfl
  split
  · split <;> rfl
  · rfl

theorem State.cellView_checkImageGet (s : State) : s.checkImageGet.cellView = s.cellView := by
  unfold State.checkImageGet
  dsimp only
  split
  · rfl
  split
  · rfl
  split <;> rfl

theorem State.cellView_checkClearCounters (s : State) : s.checkClearCounters.cellView = s.cellView := by
  have cleared (u : State) (g : Seg) : (u.onSeg g (Segment.count fun _ => Counters.zero)).cellView = u.cellView :=
    State.cellView_onSeg_of_opened rfl
  unfold State.checkClearCounters
  split
  · rfl
  · dsimp only
    rw [State.cellView_complete]
    split <;> split <;> simp only [cleared]

/-- REINIT leaves the counts as RESET does (R154). -/
theorem State.cellView_checkReinit (s : State) : s.checkReinit.cellView = State.reset.cellView := by
  have opened : s.checkReinit.cellView.opened = State.reset.cellView.opened := by
    funext g
    cases g <;> rfl
  exact congrArg (fun l => { State.reset.cellView with opened := l }) opened

/-! ## Completion checks and host accesses that reach them -/

section Laws

variable {s : State} (law : s.cellView.Lawful)
include law

theorem State.atCheck_cellLawful (code : Byte) {check : State → State} (checked : (check s).cellView.Lawful) :
    (s.atCheck code check).cellView.Lawful := by
  rcases State.atCheck_cases s code check with ⟨-, -, -, taken⟩ | nothing
  · rwa [taken]
  · rwa [nothing]

theorem State.checkDisable_cellLawful : s.checkDisable.cellView.Lawful := by
  unfold State.checkDisable
  split
  · exact law
  split
  · exact law
  split
  · exact law
  · unfold State.disableGracefully
    split <;> exact law
  · rename_i k _ _ _ _
    unfold State.disableByForce
    dsimp only
    rw [State.cellView_complete]
    split
    · exact State.abandon_cellLawful (s := s.onEntry k (Entry.become .defined)) law _ rfl
    · exact law

/-- FLUSH frees the cells of the records it removes (R104). -/
theorem State.checkFlush_cellLawful : s.checkFlush.cellView.Lawful := by
  unfold State.checkFlush
  split
  · exact law
  · rename_i scope _
    have flushed := law.remove (q := s.queue.records.filter fun r => !scope.takes r) List.filter_sublist
    refine flushed.setIndex (n := if scope.takesHead s.queue.records then 0 else s.window.dataIndex) ?_
    split
    · exact Nat.zero_le _
    · exact law.dataIndex

/-- QUEUE_CONFIG stores a threshold in range alone (R98). -/
theorem State.checkQueueConfig_cellLawful : s.checkQueueConfig.cellView.Lawful := by
  unfold State.checkQueueConfig
  dsimp only
  split
  · rename_i inRange
    exact law.setThreshold inRange
  · exact law

theorem State.checkSegment_cellLawful : s.checkSegment.cellView.Lawful := by
  unfold State.checkSegment
  split
  · exact law
  rename_i g on c _
  split
  · split
    · exact law
    · refine cellView_lawful_of_eq law (State.cellView_onSeg_of_opened ?_)
      unfold Segment.turnOn
      split
      · rename_i off
        rw [off]
        rfl
      · rfl
  · have ended := State.abandon_cellLawful law g (after := .off) rfl
    have unbound := State.abandon_unbound s g (after := .off) rfl
    refine cellView_lawful_of_eq ended (State.cellView_onSeg_of_opened ?_)
    exact (SegState.opened_of_unbound unbound).symm

/-- POP frees the head's cell (R102, R103). -/
theorem State.popHead_cellLawful : s.popHead.cellView.Lawful := by
  unfold State.popHead
  split
  · exact law
  · rename_i head rest records
    have queued : s.cellView.queued = head :: rest := records
    have kept : rest.Sublist s.cellView.queued := queued ▸ List.sublist_cons_self ..
    have one : s.cellView.queued.length - rest.length = 1 := by
      rw [queued, List.length_cons, Nat.add_sub_cancel_left]
    have popped := law.remove kept
    rw [one] at popped
    exact popped.setIndex (Nat.zero_le _)

theorem State.commitAnswer_cellLawful : s.commitAnswer.cellView.Lawful := by
  rcases State.commitAnswer_cases s with ⟨g, t, r, state, -, equal⟩ | equal
  · have txn : (s.seg g).txn = some t := by rw [Segment.txn, state]; rfl
    have delivered := cellView_lawful_of_eq law (State.cellView_deliver txn r s.dru.staging)
    rw [equal]
    exact delivered.emptyStaging
  · rw [equal]
    exact law.emptyStaging

theorem State.abortCommand_cellLawful : s.abortCommand.cellView.Lawful := by
  unfold State.abortCommand
  split
  · rename_i h _
    cases h <;> exact law
  · exact law
  · exact law

theorem State.takeWrite_cellLawful (location : Location) (value : Byte) :
    (s.takeWrite location value).cellView.Lawful := by
  unfold State.takeWrite
  split
  case h_3 =>
    have same : (s.window.writePage value).dataIndex = s.window.dataIndex := by
      unfold Window.writePage
      split <;> rfl
    exact law.setIndex (same ▸ law.dataIndex)
  case h_11 =>
    unfold InboundQueue.writeDepth
    split <;> exact law
  case h_12 => exact State.abortCommand_cellLawful law
  case h_14 => exact law.stage (d := s.dru) rfl rfl value
  case h_15 =>
    unfold State.writeAnswerControl
    split
    · exact State.commitAnswer_cellLawful law
    · split
      · exact law.emptyStaging
      · exact law
  case h_16 => exact State.popHead_cellLawful law
  case h_17 =>
    unfold State.writeUpper
    split
    case h_2 =>
      split
      · exact law.setIndex (Nat.min_le_right ..)
      · exact law
    all_goals exact law
  all_goals exact law

theorem State.hostWrite_cellLawful (location : Location) (value : Byte) :
    (s.hostWrite location value).cellView.Lawful := by
  unfold State.hostWrite
  split
  · exact law
  · exact State.takeWrite_cellLawful (s := s.endRead) law location value

/-- A read of the data port raises the data index below its highest value alone (R100). -/
theorem State.hostReadAccess_cellLawful (location : Location) : (s.hostReadAccess location).cellView.Lawful := by
  unfold State.hostReadAccess State.readSideEffect
  split
  · exact law
  · split
    · rename_i taken
      obtain ⟨-, -, below⟩ := taken
      exact law.setIndex below
    · exact law

theorem State.hostWriteDisregarded_cellLawful : s.hostWriteDisregarded.cellView.Lawful := by
  unfold State.hostWriteDisregarded
  split <;> exact law

/-! ## Every command and every step -/

/-- Every command answers a state in which the laws of the cells, of the counts and of records hold. -/
theorem exec_cellLawful (c : Instr) : ∃ t, exec c s = .next t ∧ t.cellView.Lawful := by
  have unseen {u : State} (same : u.cellView = s.cellView) : u.cellView.Lawful := cellView_lawful_of_eq law same
  have unseenCheck (code : Byte) {check : State → State} (same : (check s).cellView = s.cellView) :=
    State.atCheck_cellLawful law code (unseen same)
  cases c with
  | start g => exact ⟨_, rfl, State.startCondition_cellLawful law g⟩
  | stop g => exact ⟨_, rfl, State.stopCondition_cellLawful law g⟩
  | addressByte g =>
    refine ⟨_, rfl, ?_⟩
    split
    · rename_i arises
      exact unseen (State.cellView_completeAddress
        (Segment.state_of_fallRow_addressByte (State.fallRow_of_fallArises arises)))
    · exact law
  | subAddressByte g =>
    refine ⟨_, rfl, ?_⟩
    split
    · split
      · exact unseen (State.cellView_completeSubAddress (by assumption))
      · exact law
    · exact law
  | writeDataByte g =>
    refine ⟨_, rfl, ?_⟩
    split
    · split
      · rename_i t state
        exact State.completeData_cellLawful law (t := t) (by rw [Segment.txn, state]; rfl)
      · rename_i t state
        exact unseen (State.cellView_completeRefused (t := t) (by rw [Segment.txn, state]; rfl))
      · exact law
    · exact law
  | writeAckBit g sda =>
    refine ⟨_, rfl, ?_⟩
    split
    · split
      · exact unseen (State.cellView_takeWriteAck ..)
      · exact law
    · exact law
  | byteNeed g =>
    refine ⟨_, rfl, ?_⟩
    split
    · split
      · exact unseen (State.cellView_takeByteNeed (by assumption))
      · exact law
    · exact law
  | masterAckBit g sda =>
    refine ⟨_, rfl, ?_⟩
    split
    · split
      · exact unseen (State.cellView_takeMasterAck (by assumption) sda)
      · exact law
    · exact law
  | tick =>
    refine ⟨_, rfl, ?_⟩
    split
    · exact law
    · exact State.tickSegment_cellLawful (State.tickSegment_cellLawful law .A) .B
  | abandonTimerExpiry g =>
    refine ⟨_, rfl, ?_⟩
    split
    · split
      · exact State.abandon_cellLawful law g rfl
      · exact law
    · exact law
  | stretchExpiry g =>
    refine ⟨_, rfl, ?_⟩
    split
    · rename_i t r state
      split
      · exact unseen (State.cellView_expireStretch (t := t) (by rw [Segment.txn, state]; rfl) r)
      · exact law
    · exact law
  | define => exact ⟨_, rfl, unseenCheck _ (State.cellView_checkDefine s)⟩
  | enable => exact ⟨_, rfl, unseenCheck _ (State.cellView_checkEnable s)⟩
  | disable => exact ⟨_, rfl, State.atCheck_cellLawful law _ (State.checkDisable_cellLawful law)⟩
  | release => exact ⟨_, rfl, unseenCheck _ (State.cellView_checkRelease s)⟩
  | vtQuery => exact ⟨_, rfl, unseenCheck _ (State.cellView_checkVtQuery s)⟩
  | regions => exact ⟨_, rfl, unseenCheck _ (State.cellView_checkRegions s)⟩
  | imagePut => exact ⟨_, rfl, unseenCheck _ (State.cellView_checkImagePut s)⟩
  | imageGet => exact ⟨_, rfl, unseenCheck _ (State.cellView_checkImageGet s)⟩
  | flush => exact ⟨_, rfl, State.atCheck_cellLawful law _ (State.checkFlush_cellLawful law)⟩
  | queueConfig => exact ⟨_, rfl, State.atCheck_cellLawful law _ (State.checkQueueConfig_cellLawful law)⟩
  | segment => exact ⟨_, rfl, State.atCheck_cellLawful law _ (State.checkSegment_cellLawful law)⟩
  | clearCounters => exact ⟨_, rfl, unseenCheck _ (State.cellView_checkClearCounters s)⟩
  | sleep | awake => exact ⟨_, rfl, unseenCheck _ rfl⟩
  | reinit =>
    exact ⟨_, rfl, State.atCheck_cellLawful law _
      (cellView_lawful_of_eq CellView.lawful_reset (State.cellView_checkReinit s))⟩
  | unknown =>
    refine ⟨_, rfl, ?_⟩
    split
    · exact law
    · exact unseenCheck _ rfl
  | dataPortRead => exact ⟨_, rfl, State.hostReadAccess_cellLawful law _⟩
  | disregardedWrite => exact ⟨_, rfl, State.hostWriteDisregarded_cellLawful law⟩
  | resetAssert => exact ⟨_, rfl, CellView.lawful_reset⟩
  | resetRelease => exact ⟨_, rfl, law⟩
  | sclEdge g edge => exact ⟨_, rfl, unseen (State.cellView_clockEdge s g edge)⟩
  | commandIssue | abort | clearCollision | parameterWrite | pageWrite | pendingClear | intEnableWrite
  | wakeEnableWrite | emptyPopClear | pop | dataIndexWrite | answerSeqWrite | answerDataWrite | commit
  | clear => exact ⟨_, rfl, State.hostWrite_cellLawful law _ _⟩

end Laws

/-- Settles O7: the laws are those of the view, which every command keeps. -/
theorem cellsStayAccountedFor : Obligations.CellsStayAccountedFor := by
  intro s t cells counts records stepped
  have law := State.cellView_lawful cells counts records
  unfold step at stepped
  split at stepped
  · cases stepped
    exact law.toState
  · rename_i c rest _
    obtain ⟨u, taken, kept⟩ := exec_cellLawful (s := { s with pending := rest }) law c
    rw [taken] at stepped
    cases stepped
    exact kept.toState

end Sys2Proof.Machine
end

section
/-! PROOFS. What the part does to the Inbound Queue: most operations leave it alone, records leave it, or a commit
joins records to its tail. So every step keeps the record numbers distinct (O8). -/

namespace Sys2Proof.Machine

open Sys2Proof.Safety

/-! ## The operations that leave the queue alone -/

@[simp] theorem State.onSeg_queue (s : State) (g : Seg) (f : Segment → Segment) :
    (s.onSeg g f).queue = s.queue := State.setSeg_queue ..

@[simp] theorem State.onEntry_queue (s : State) (k : Fin 16) (f : Entry → Entry) :
    (s.onEntry k f).queue = s.queue := rfl

@[simp] theorem State.lowerClock_queue (s : State) (g : Seg) : (s.lowerClock g).queue = s.queue :=
  State.setLines_queue ..

@[simp] theorem State.raiseClock_queue (s : State) (g : Seg) (sda : Bool) :
    (s.raiseClock g sda).queue = s.queue := State.setLines_queue ..

@[simp] theorem State.acceptByte_queue (s : State) (g : Seg) (t : Txn) :
    (s.acceptByte g t).queue = s.queue := State.onSeg_queue ..

@[simp] theorem State.refuseByte_queue (s : State) (g : Seg) (t : Txn) :
    (s.refuseByte g t).queue = s.queue := State.onSeg_queue ..

@[simp] theorem State.applyByte_queue (s : State) (k : Fin 16) (b : Byte) :
    (s.applyByte k b).queue = s.queue := rfl

theorem State.completeAddress_queue (s : State) (g : Seg) : (s.completeAddress g).queue = s.queue := by
  unfold State.completeAddress
  dsimp only
  split <;> simp

theorem State.completeSubAddress_queue (s : State) (g : Seg) (t : Txn) :
    (s.completeSubAddress g t).queue = s.queue := by
  simp [State.completeSubAddress]

/-- A recorded byte stays in its open record until the commit (R80, R85). -/
theorem State.recordByte_queue (s : State) (g : Seg) (t : Txn) (applied : Bool) :
    (s.recordByte g t applied).queue = s.queue := by
  unfold State.recordByte
  dsimp only
  split
  · cases applied <;> simp
  · cases applied <;> simp
  · simp

theorem State.completeData_queue (s : State) (g : Seg) (t : Txn) : (s.completeData g t).queue = s.queue := by
  rcases State.completeData_cases s g t with equal | equal | ⟨applied, equal⟩
  · simp [equal]
  · simp [equal]
  · simp [equal, State.recordByte_queue]

theorem State.completeRefused_queue (s : State) (g : Seg) (t : Txn) :
    (s.completeRefused g t).queue = s.queue := by
  simp [State.completeRefused]

theorem State.takeWriteAck_queue (s : State) (g : Seg) (t : Txn) (sda : Bool) :
    (s.takeWriteAck g t sda).queue = s.queue := by
  simp [State.takeWriteAck]

theorem State.takeMasterAck_queue (s : State) (g : Seg) (t : Txn) (sda : Bool) :
    (s.takeMasterAck g t sda).queue = s.queue := by
  simp [State.takeMasterAck]

theorem State.needByte_queue (s : State) (g : Seg) (t : Txn) : (s.needByte g t).queue = s.queue := by
  rcases State.needByte_cases s g t with ⟨ahead, b, equal⟩ | ⟨b, equal⟩ | equal
  · rw [equal]; exact State.onSeg_queue ..
  · rw [equal]; exact State.onSeg_queue ..
  · rw [equal]; exact State.onSeg_queue ..

theorem State.takeByteNeed_queue (s : State) (g : Seg) (t : Txn) : (s.takeByteNeed g t).queue = s.queue := by
  simp [State.takeByteNeed, State.needByte_queue]

theorem State.expireStretch_queue (s : State) (g : Seg) (t : Txn) (r : Request) :
    (s.expireStretch g t r).queue = s.queue := State.onSeg_queue ..

theorem State.clockEdge_queue (s : State) (g : Seg) (edge : ClockEdge) :
    (s.clockEdge g edge).queue = s.queue := by
  unfold State.clockEdge
  cases edge with
  | rise sda => dsimp only; split <;> split <;> simp
  | fall => dsimp only; split <;> split <;> simp

/-- What a waiting command does at the end of a transaction does not reach the queue (R145). -/
theorem State.completeWaiting_queue (s : State) (g : Seg) : (s.completeWaiting g).queue = s.queue := by
  rcases State.completeWaiting_cases s g with ⟨h, -, equal⟩ | ⟨-, equal⟩
  · rw [equal]
    cases h with
    | disable | regions | imagePut => rfl
    | segment c => exact State.onSeg_queue ..
  · rw [equal]

/-- An abandoned transaction queues nothing (R63, R88). -/
theorem State.abandon_queue (s : State) (g : Seg) (after : SegState) : (s.abandon g after).queue = s.queue := by
  cases txn : (s.seg g).txn with
  | none => rw [State.abandon_of_unbound after txn]
  | some t =>
    rw [State.abandon_of_bound after txn]
    exact (State.completeWaiting_queue ..).trans (by simp)

theorem State.tickSegment_queue (s : State) (g : Seg) : (s.tickSegment g).queue = s.queue := by
  unfold State.tickSegment
  split
  · split
    · exact State.expireStretch_queue ..
    · exact State.onSeg_queue ..
  · split
    · rfl
    · split
      · exact State.abandon_queue ..
      · exact State.onSeg_queue ..

theorem State.abortCommand_queue (s : State) : s.abortCommand.queue = s.queue := by
  unfold State.abortCommand
  split
  · rename_i h _
    cases h <;> rfl
  · rfl
  · rfl

theorem State.commitAnswer_queue (s : State) : s.commitAnswer.queue = s.queue := by
  rcases State.commitAnswer_cases s with ⟨g, t, r, -, -, equal⟩ | equal
  · rw [equal]; exact State.onSeg_queue ..
  · rw [equal]

theorem State.hostReadAccess_queue (s : State) (location : Location) :
    (s.hostReadAccess location).queue = s.queue := by
  unfold State.hostReadAccess State.readSideEffect
  split
  · rfl
  · split <;> rfl

/-! ## The completion checks that leave it alone -/

theorem State.checkDefine_queue (s : State) : s.checkDefine.queue = s.queue := by
  unfold State.checkDefine
  split
  · rfl
  split
  · rfl
  split
  · rfl
  split <;> rfl

theorem State.checkEnable_queue (s : State) : s.checkEnable.queue = s.queue := by
  unfold State.checkEnable
  split
  · rfl
  split
  · rfl
  split <;> rfl

theorem State.checkDisable_queue (s : State) : s.checkDisable.queue = s.queue := by
  unfold State.checkDisable
  split
  · rfl
  split
  · rfl
  split
  · rfl
  · unfold State.disableGracefully
    split <;> rfl
  · unfold State.disableByForce
    dsimp only
    split
    · exact State.abandon_queue ..
    · rfl

theorem State.checkRelease_queue (s : State) : s.checkRelease.queue = s.queue := by
  unfold State.checkRelease
  split
  · rfl
  split <;> rfl

theorem State.checkVtQuery_queue (s : State) : s.checkVtQuery.queue = s.queue := by
  unfold State.checkVtQuery
  split
  · rfl
  split
  · rfl
  split <;> rfl

theorem State.checkRegions_queue (s : State) : s.checkRegions.queue = s.queue := by
  unfold State.checkRegions
  split
  · rfl
  split
  · rfl
  split
  · rfl
  split
  · rfl
  split <;> rfl

theorem State.checkImagePut_queue (s : State) : s.checkImagePut.queue = s.queue := by
  unfold State.checkImagePut
  dsimp only
  split
  · rfl
  split
  · rfl
  split
  · rfl
  split
  · split <;> rfl
  · rfl

theorem State.checkImageGet_queue (s : State) : s.checkImageGet.queue = s.queue := by
  unfold State.checkImageGet
  dsimp only
  split
  · rfl
  split
  · rfl
  split <;> rfl

theorem State.checkSegment_queue (s : State) : s.checkSegment.queue = s.queue := by
  unfold State.checkSegment
  split
  · rfl
  split
  · split
    · rfl
    · exact State.onSeg_queue ..
  · exact (State.onSeg_queue ..).trans (State.abandon_queue ..)

theorem State.checkClearCounters_queue (s : State) : s.checkClearCounters.queue = s.queue := by
  unfold State.checkClearCounters
  split
  · rfl
  dsimp only
  split <;> split <;> rfl

/-! ## The operations by which records leave the queue -/

/-- From `q` to `r` no record has joined, and the record counter has stayed, or the queue is empty. -/
structure InboundQueue.Thins (q r : InboundQueue) : Prop where
  fewer : r.records.Sublist q.records
  counter : r.records = [] ∨ r.counter = q.counter

theorem InboundQueue.thins_of_eq {q r : InboundQueue} (same : r = q) : q.Thins r :=
  same ▸ ⟨.refl _, .inr rfl⟩

/-- The queue after either reset (R107, R108). -/
theorem InboundQueue.thins_reset (q : InboundQueue) : q.Thins .reset := ⟨List.nil_sublist _, .inl rfl⟩

theorem InboundQueue.thins_writeDepth (q : InboundQueue) (value : Byte) : q.Thins (q.writeDepth value) := by
  unfold InboundQueue.writeDepth
  split <;> exact ⟨.refl _, .inr rfl⟩

theorem State.popHead_thins (s : State) : s.queue.Thins s.popHead.queue := by
  unfold State.popHead
  split
  · exact ⟨.refl _, .inr rfl⟩
  · rename_i head rest records
    exact ⟨records ▸ List.sublist_cons_self .., .inr rfl⟩

theorem State.checkFlush_thins (s : State) : s.queue.Thins s.checkFlush.queue := by
  unfold State.checkFlush
  split
  · exact ⟨.refl _, .inr rfl⟩
  · exact ⟨List.filter_sublist, .inr rfl⟩

theorem State.checkQueueConfig_thins (s : State) : s.queue.Thins s.checkQueueConfig.queue := by
  unfold State.checkQueueConfig
  dsimp only
  split <;> exact ⟨.refl _, .inr rfl⟩

/-- Of the writes to the window only QUEUE_DEPTH and POP reach the queue (R102, R103). -/
theorem State.hostWrite_thins (s : State) (location : Location) (value : Byte) :
    s.queue.Thins (s.hostWrite location value).queue := by
  unfold State.hostWrite
  split
  · exact InboundQueue.thins_of_eq rfl
  unfold State.takeWrite
  split
  case h_11 => exact s.queue.thins_writeDepth value
  case h_12 => exact InboundQueue.thins_of_eq (State.abortCommand_queue s.endRead)
  case h_15 =>
    unfold State.writeAnswerControl
    split
    · exact InboundQueue.thins_of_eq (State.commitAnswer_queue s.endRead)
    · split <;> exact InboundQueue.thins_of_eq rfl
  case h_16 => exact State.popHead_thins s.endRead
  case h_17 =>
    unfold State.writeUpper
    split
    case h_2 => split <;> exact InboundQueue.thins_of_eq rfl
    all_goals exact InboundQueue.thins_of_eq rfl
  all_goals exact InboundQueue.thins_of_eq rfl

theorem State.atCheck_thins {s : State} (code : Byte) {check : State → State}
    (checked : s.queue.Thins (check s).queue) : s.queue.Thins (s.atCheck code check).queue := by
  rcases State.atCheck_cases s code check with ⟨-, -, -, taken⟩ | nothing
  · rwa [taken]
  · rw [nothing]
    exact InboundQueue.thins_of_eq rfl

/-! ## The operations that commit -/

/-- The queue of `t` is that of `s` after the commit of a transaction's open records (R85). -/
def State.CommitsTo (s t : State) : Prop :=
  ∃ g x cause, (s.seg g).txn = some x ∧ t.queue = InboundQueue.pushAll cause s.queue x.records

@[simp] theorem State.commitRecords_queue (s : State) (g : Seg) (cause : CommitCause) (l : List OpenRecord) :
    (s.commitRecords g cause l).queue = InboundQueue.pushAll cause s.queue l := by
  obtain ⟨index, events, equal⟩ := State.commitRecords_eq s g cause l
  rw [equal]

theorem State.endTransaction_queue (s : State) (g : Seg) (t : Txn) (cause : CommitCause) (after : SegState) :
    (s.endTransaction g t (.commit cause) after).queue = InboundQueue.pushAll cause s.queue t.records :=
  (State.completeWaiting_queue ..).trans (by simp)

/-- A condition that ends a transaction commits its records, BROKEN or with its own cause (R60 to R62). -/
theorem State.endByCondition_commitsTo {s : State} {g : Seg} {t : Txn} (txn : (s.seg g).txn = some t)
    (cause : CommitCause) (after : SegState) : s.CommitsTo (s.endByCondition g t cause after) := by
  unfold State.endByCondition
  split
  · exact ⟨g, t, .broken, txn, (State.endTransaction_queue ..).trans (by simp)⟩
  · exact ⟨g, t, cause, txn, State.endTransaction_queue ..⟩

theorem State.recogniseStart_queue (s : State) (g : Seg) :
    (s.recogniseStart g).queue = s.queue ∨ s.CommitsTo (s.recogniseStart g) := by
  have begins := State.onSeg_queue s g (Segment.unbind .address)
  have ends (t : Txn) (txn : (s.seg g).state.txn = some t) :=
    State.endByCondition_commitsTo txn .repeatedStart .address
  unfold State.recogniseStart
  split
  case h_1 | h_9 => exact .inl rfl
  case h_2 | h_3 | h_4 => exact .inl begins
  case h_5 state | h_6 state | h_7 state | h_8 state | h_10 state => exact .inr (ends _ (by rw [state]; rfl))

theorem State.recogniseStop_queue (s : State) (g : Seg) :
    (s.recogniseStop g).queue = s.queue ∨ s.CommitsTo (s.recogniseStop g) := by
  have idles := State.onSeg_queue s g (Segment.unbind .idle)
  have ends (t : Txn) (txn : (s.seg g).state.txn = some t) :=
    State.endByCondition_commitsTo txn .stop .idle
  unfold State.recogniseStop
  split
  case h_1 | h_2 | h_9 => exact .inl rfl
  case h_3 | h_4 => exact .inl idles
  case h_5 state | h_6 state | h_7 state | h_8 state | h_10 state => exact .inr (ends _ (by rw [state]; rfl))

/-- The levels of the lines are not among what a commit depends on. -/
theorem State.commitsTo_of_setLines {s t : State} {g : Seg} {l : Lines} (h : (s.setLines g l).CommitsTo t) :
    s.CommitsTo t := by
  simpa only [State.CommitsTo, State.setLines_seg, State.setLines_queue] using h

theorem State.startCondition_queue (s : State) (g : Seg) :
    (s.startCondition g).queue = s.queue ∨ s.CommitsTo (s.startCondition g) := by
  have moved (l : Lines) := State.setLines_queue s g l
  unfold State.startCondition
  dsimp only
  split
  · split
    · exact .inl (moved _)
    · exact (State.recogniseStart_queue _ g).imp (·.trans (moved _)) State.commitsTo_of_setLines
  · exact .inl rfl

theorem State.stopCondition_queue (s : State) (g : Seg) :
    (s.stopCondition g).queue = s.queue ∨ s.CommitsTo (s.stopCondition g) := by
  have moved (l : Lines) := State.setLines_queue s g l
  unfold State.stopCondition
  dsimp only
  split
  · split
    · exact .inl (moved _)
    · exact (State.recogniseStop_queue _ g).imp (·.trans (moved _)) State.commitsTo_of_setLines
  · exact .inl rfl

/-! ## Every command -/

/-- Every command thins the queue out or leaves it alone, but a START or STOP that commits a transaction. -/
theorem exec_queue_cases (c : Instr) (s : State) :
    ∃ t, exec c s = .next t ∧ (s.queue.Thins t.queue ∨ s.CommitsTo t) := by
  have same {t : State} (equal : t.queue = s.queue) : s.queue.Thins t.queue ∨ s.CommitsTo t :=
    .inl (InboundQueue.thins_of_eq equal)
  have check (code : Byte) {f : State → State} (thins : s.queue.Thins (f s).queue) :
      s.queue.Thins (s.atCheck code f).queue ∨ s.CommitsTo (s.atCheck code f) :=
    .inl (State.atCheck_thins code thins)
  have quiet (code : Byte) {f : State → State} (equal : (f s).queue = s.queue) :
      s.queue.Thins (s.atCheck code f).queue ∨ s.CommitsTo (s.atCheck code f) :=
    check code (InboundQueue.thins_of_eq equal)
  cases c with
  | start g => exact ⟨_, rfl, (State.startCondition_queue s g).imp_left InboundQueue.thins_of_eq⟩
  | stop g => exact ⟨_, rfl, (State.stopCondition_queue s g).imp_left InboundQueue.thins_of_eq⟩
  | addressByte g =>
    refine ⟨_, rfl, same ?_⟩
    split
    · exact State.completeAddress_queue ..
    · rfl
  | subAddressByte g =>
    refine ⟨_, rfl, same ?_⟩
    split
    · split
      · exact State.completeSubAddress_queue ..
      · rfl
    · rfl
  | writeDataByte g =>
    refine ⟨_, rfl, same ?_⟩
    split
    · split
      · exact State.completeData_queue ..
      · exact State.completeRefused_queue ..
      · rfl
    · rfl
  | writeAckBit g sda =>
    refine ⟨_, rfl, same ?_⟩
    split
    · split
      · exact State.takeWriteAck_queue ..
      · rfl
    · rfl
  | byteNeed g =>
    refine ⟨_, rfl, same ?_⟩
    split
    · split
      · exact State.takeByteNeed_queue ..
      · rfl
    · rfl
  | masterAckBit g sda =>
    refine ⟨_, rfl, same ?_⟩
    split
    · split
      · exact State.takeMasterAck_queue ..
      · rfl
    · rfl
  | tick =>
    refine ⟨_, rfl, same ?_⟩
    split
    · rfl
    · exact (State.tickSegment_queue ..).trans (State.tickSegment_queue ..)
  | abandonTimerExpiry g =>
    refine ⟨_, rfl, same ?_⟩
    split
    · split
      · exact State.abandon_queue ..
      · rfl
    · rfl
  | stretchExpiry g =>
    refine ⟨_, rfl, same ?_⟩
    split
    · split
      · exact State.expireStretch_queue ..
      · rfl
    · rfl
  | define => exact ⟨_, rfl, quiet _ (State.checkDefine_queue s)⟩
  | enable => exact ⟨_, rfl, quiet _ (State.checkEnable_queue s)⟩
  | disable => exact ⟨_, rfl, quiet _ (State.checkDisable_queue s)⟩
  | release => exact ⟨_, rfl, quiet _ (State.checkRelease_queue s)⟩
  | vtQuery => exact ⟨_, rfl, quiet _ (State.checkVtQuery_queue s)⟩
  | regions => exact ⟨_, rfl, quiet _ (State.checkRegions_queue s)⟩
  | imagePut => exact ⟨_, rfl, quiet _ (State.checkImagePut_queue s)⟩
  | imageGet => exact ⟨_, rfl, quiet _ (State.checkImageGet_queue s)⟩
  | flush => exact ⟨_, rfl, check _ (State.checkFlush_thins s)⟩
  | queueConfig => exact ⟨_, rfl, check _ (State.checkQueueConfig_thins s)⟩
  | segment => exact ⟨_, rfl, quiet _ (State.checkSegment_queue s)⟩
  | clearCounters => exact ⟨_, rfl, quiet _ (State.checkClearCounters_queue s)⟩
  | sleep | awake => exact ⟨_, rfl, quiet _ rfl⟩
  | reinit => exact ⟨_, rfl, check _ s.queue.thins_reset⟩
  | unknown =>
    refine ⟨_, rfl, ?_⟩
    split
    · exact same rfl
    · exact quiet _ rfl
  | dataPortRead => exact ⟨_, rfl, same (State.hostReadAccess_queue ..)⟩
  | disregardedWrite =>
    refine ⟨_, rfl, same ?_⟩
    unfold State.hostWriteDisregarded
    split <;> rfl
  | resetAssert => exact ⟨_, rfl, .inl s.queue.thins_reset⟩
  | resetRelease => exact ⟨_, rfl, same rfl⟩
  | sclEdge g edge => exact ⟨_, rfl, same (State.clockEdge_queue s g edge)⟩
  | commandIssue | abort | clearCollision | parameterWrite | pageWrite | pendingClear | intEnableWrite
  | wakeEnableWrite | emptyPopClear | pop | dataIndexWrite | answerSeqWrite | answerDataWrite | commit
  | clear => exact ⟨_, rfl, .inl (State.hostWrite_thins s _ _)⟩

/-! ## Distinct numbers (R94, R95) -/

/-- The numbers of a queue are distinct, and its counter is off them. -/
def InboundQueue.Distinct (q : InboundQueue) : Prop := q.numbers.Nodup ∧ q.counter ∉ q.numbers

theorem numbersDistinct_iff (s : State) : NumbersDistinct s ↔ s.queue.Distinct := Iff.rfl

/-- Numbers stay distinct where records only leave. -/
theorem InboundQueue.Distinct.thin {q r : InboundQueue} (distinct : q.Distinct) (thins : q.Thins r) :
    r.Distinct := by
  obtain ⟨nodup, off⟩ := distinct
  have fewer : r.numbers.Sublist q.numbers := thins.fewer.map _
  refine ⟨nodup.sublist fewer, fun mem => ?_⟩
  rcases thins.counter with empty | same
  · simp [numbers, empty] at mem
  · exact off (fewer.subset (same ▸ mem))

/-- A pushed record takes the counter's number, which none carries, and the counter moves off all of them. -/
theorem InboundQueue.Distinct.push {q : InboundQueue} (distinct : q.Distinct) (fits : q.records.length < 255)
    (cause : CommitCause) (r : OpenRecord) : (q.push cause r).Distinct := by
  obtain ⟨nodup, off⟩ := distinct
  have few : (q.numbers ++ [q.counter]).length < 256 := by
    simp only [numbers, List.length_append, List.length_map, List.length_singleton]
    omega
  obtain ⟨unused, -⟩ := isValueAfter_valueAfter few q.counter
  rw [Distinct, push_numbers]
  exact ⟨List.nodup_append.2 ⟨nodup, List.nodup_singleton _, fun n mem m own => by
    rw [List.mem_singleton.1 own]
    exact ne_of_mem_of_not_mem mem off⟩, unused⟩

theorem InboundQueue.Distinct.pushAll (cause : CommitCause) (l : List OpenRecord) : ∀ {q : InboundQueue},
    q.Distinct → q.records.length + l.length ≤ 255 → (InboundQueue.pushAll cause q l).Distinct := by
  induction l with
  | nil => exact fun distinct _ => distinct
  | cons r rest ih =>
    intro q distinct fits
    rw [List.length_cons] at fits
    have depth : (q.push cause r).records.length = q.records.length + 1 := by simp [InboundQueue.push]
    exact ih (distinct.push (by omega) cause r) (by omega)

/-- The queued records and the open ones of a segment have their cells, so they number at most 32 (R75, R76). -/
theorem queued_and_open_le {s : State} (cells : CellsAccounted s) {g : Seg} {t : Txn}
    (txn : (s.seg g).txn = some t) : s.queue.records.length + t.records.length ≤ Config.cellCount := by
  obtain ⟨total, reservedA, reservedB⟩ := cells
  have own : openRecords (s.seg g) = t.records.length := by simp [openRecords, txn]
  cases g with
  | A => change openRecords s.segA = _ at own; omega
  | B => change openRecords s.segB = _ at own; omega

theorem exec_numbersDistinct {s : State} (cells : CellsAccounted s) (distinct : NumbersDistinct s) (c : Instr) :
    ∃ t, exec c s = .next t ∧ NumbersDistinct t := by
  obtain ⟨t, taken, thins | ⟨g, x, cause, txn, joined⟩⟩ := exec_queue_cases c s
  · exact ⟨t, taken, InboundQueue.Distinct.thin distinct thins⟩
  · have fits : s.queue.records.length + x.records.length ≤ 255 :=
      (queued_and_open_le cells txn).trans (by decide)
    refine ⟨t, taken, (numbersDistinct_iff t).2 ?_⟩
    rw [joined]
    exact InboundQueue.Distinct.pushAll cause x.records distinct fits

/-- Settles O8: records leave the queue, or a commit numbers them by a counter that no queued record carries. -/
theorem recordNumbersStayDistinct : Obligations.RecordNumbersStayDistinct := by
  intro s t cells distinct stepped
  unfold step at stepped
  split at stepped
  · cases stepped
    exact distinct
  · rename_i c rest _
    obtain ⟨u, taken, kept⟩ := exec_numbersDistinct (s := { s with pending := rest }) cells distinct c
    rw [taken] at stepped
    cases stepped
    exact kept

end Sys2Proof.Machine
end

section
/-! PROOFS. The completion checks of FLUSH and QUEUE_CONFIG (O51). -/

namespace Sys2Proof.Machine

open Sys2Proof.Safety

/-! ## FLUSH (R104) -/

/-- The scope that a valid value names, as the records it takes (8.8). -/
theorem flushScopeOfCode_of_le {b : Byte} (valid : b.toNat ≤ 2) : ∃ scope, flushScopeOfCode b = some scope ∧
    ∀ r, scope.takes r = (b.toNat == 0 || (b.toNat == 1 && r.body.segment == .A)
      || (b.toNat == 2 && r.body.segment == .B)) := by
  have values : b = 0 ∨ b = 1 ∨ b = 2 := by bv_omega
  rcases values with rfl | rfl | rfl
  · exact ⟨.all, rfl, fun r => rfl⟩
  · exact ⟨.only .A, rfl, fun r => by simp [FlushScope.takes]⟩
  · exact ⟨.only .B, rfl, fun r => by simp [FlushScope.takes]⟩

theorem flushScopeOfCode_eq_none {b : Byte} (invalid : 3 ≤ b.toNat) : flushScopeOfCode b = none := by
  obtain ⟨all, onlyA, onlyB⟩ : b ≠ 0 ∧ b ≠ 1 ∧ b ≠ 2 := by bv_omega
  rw [flushScopeOfCode, if_neg all, if_neg onlyA, if_neg onlyB]

theorem FlushScope.takesHead_eq (scope : FlushScope) (l : List QueuedRecord) :
    scope.takesHead l = l.head?.any scope.takes := by
  cases l <;> rfl

/-- A FLUSH frees a cell for each record it takes (R90, R104). -/
theorem State.flushScope_eq (s : State) (scope : FlushScope) : s.flushScope scope =
    { s with queue := { s.queue with records := s.queue.records.filter fun r => !scope.takes r }
             pool := { s.pool with free := s.pool.free + (s.queue.records.filter scope.takes).length }
             window := { s.window with dataIndex :=
               if s.queue.records.head?.any scope.takes then 0 else s.window.dataIndex } } := by
  have removed : s.queue.records.length - (s.queue.records.filter fun r => !scope.takes r).length
      = (s.queue.records.filter scope.takes).length := by
    rw [List.length_eq_length_filter_add scope.takes, Nat.add_sub_cancel]
  simp only [State.flushScope, Pool.release, removed, FlushScope.takesHead_eq]

/-! ## The two commands -/

variable {s : State}

theorem exec_flush_of_running (running : Running s 0x20) : exec .flush s = .next s.checkFlush := by
  obtain ⟨awake, state, code⟩ := running
  exact congrArg _ (State.atCheck_of_running _ awake state code)

theorem exec_queueConfig_of_running (running : Running s 0x21) :
    exec .queueConfig s = .next s.checkQueueConfig := by
  obtain ⟨awake, state, code⟩ := running
  exact congrArg _ (State.atCheck_of_running _ awake state code)

/-- Settles O51. -/
theorem queueCommandsFlushAndConfigure : Obligations.QueueCommandsFlushAndConfigure := by
  intro s v inScope removed
  refine ⟨fun running => ⟨fun invalid => ?_, fun valid => ?_⟩,
    fun running => ⟨fun invalid => ?_, fun low high => ?_⟩⟩
  · rw [exec_flush_of_running running, State.checkFlush, flushScopeOfCode_eq_none invalid]
  · obtain ⟨scope, named, takes⟩ := flushScopeOfCode_of_le valid
    have same : scope.takes = inScope := funext takes
    rw [exec_flush_of_running running, State.checkFlush, named]
    simp only [State.flushScope_eq, same]
    rfl
  · rw [exec_queueConfig_of_running running, State.checkQueueConfig, if_neg]
    rintro ⟨low, high⟩
    change 1 ≤ v at low
    change v ≤ 32 at high
    omega
  · rw [exec_queueConfig_of_running running, State.checkQueueConfig, if_pos ⟨low, high⟩]

end Sys2Proof.Machine
end

section
/-! PROOFS. Host accesses to the window (10.2 to 10.4): what a write to a location and a read of it reach, in terms
of PAGE for the upper half, and the Inbound Queue's own locations (O58). -/

namespace Sys2Proof.Machine

open Sys2Proof.Safety

/-! ## Locations -/

/-- The location of position `n` of the upper half (R176). -/
theorem toNat_upper {n : Nat} (small : n < 16) : (BitVec.ofNat 5 (16 + n)).toNat = 16 + n := by
  rw [BitVec.toNat_ofNat, Nat.mod_eq_of_lt (by omega)]

/-- A write to the upper half reaches the position that its location names (R176). -/
theorem State.takeWrite_upper (s : State) {location : Location} {n : Nat} (upper : location.toNat = 16 + n)
    (value : Byte) : s.takeWrite location value = s.writeUpper n value := by
  unfold State.takeWrite
  split
  case h_17 => rw [upper, Nat.add_sub_cancel_left]
  all_goals omega

/-- A read of the upper half returns the position that its location names (R176). -/
theorem State.hostRead_upper (s : State) {n : Nat} (small : n < 16) :
    s.hostRead (BitVec.ofNat 5 (16 + n)) = s.readUpper n := by
  have upper := toNat_upper small
  unfold State.hostRead
  split
  case h_17 => rw [upper, Nat.add_sub_cancel_left]
  all_goals omega

/-! ## The page shown -/

section Page

variable {s : State}

theorem State.writeUpper_of_page_zero (page : s.window.page = 0) (n : Nat) (value : Byte) :
    s.writeUpper n value = { s with engine := { s.engine with params := s.engine.params.put n value } } := by
  simp [State.writeUpper, page]

theorem State.writeUpper_of_page_one (page : s.window.page = 1) (n : Nat) (value : Byte) :
    s.writeUpper n value = if n = 11 then { s with window := s.window.writeIndex value } else s := by
  simp [State.writeUpper, page]

theorem State.writeUpper_of_page_two_three (page : s.window.page = 2 ∨ s.window.page = 3) (n : Nat)
    (value : Byte) : s.writeUpper n value = s := by
  rcases page with page | page <;> simp [State.writeUpper, page]

theorem State.readUpper_of_page_zero (page : s.window.page = 0) (n : Fin 16) :
    s.readUpper n.val = s.engine.params[n] := by
  simp [State.readUpper, page]

theorem State.readUpper_of_page_one (page : s.window.page = 1) (n : Nat) :
    s.readUpper n = s.readRecordView n := by
  simp [State.readUpper, page]

/-- On page 2 segment A's request view stands first (R179). -/
theorem State.readUpper_requestA (page : s.window.page = 2) {n : Nat} (first : n < 7) :
    s.readUpper n = s.segA.readRequestView n := by
  simp [State.readUpper, page, first]

/-- On page 2 segment B's request view follows at position 7 (R179). -/
theorem State.readUpper_requestB (page : s.window.page = 2) {n : Nat} (second : n < 7) :
    s.readUpper (7 + n) = s.segB.readRequestView n := by
  simp [State.readUpper, page, show 7 + n < 14 by omega]

theorem State.readUpper_staging (page : s.window.page = 2) : s.readUpper 14 = s.dru.stagingByte := by
  simp [State.readUpper, page]

/-- On page 3 segment A's counters stand first (R180). -/
theorem State.readUpper_countersA (page : s.window.page = 3) {n : Nat} (first : n < 8) :
    s.readUpper n = s.segA.counters.read n := by
  simp [State.readUpper, page, first]

/-- On page 3 segment B's counters follow at position 8 (R180). -/
theorem State.readUpper_countersB (page : s.window.page = 3) (n : Nat) :
    s.readUpper (8 + n) = s.segB.counters.read n := by
  simp [State.readUpper, page]

/-- A head record shows its items (10.7). -/
theorem State.readRecordView_of_cons {r : QueuedRecord} {rest : List QueuedRecord}
    (records : s.queue.records = r :: rest) :
    s.readRecordView 0 = 1 ∧ s.readRecordView 1 = segCode r.body.segment ∧ s.readRecordView 2 = r.cause.byte
    ∧ s.readRecordView 3 = BitVec.ofNat 8 r.body.target.val ∧ s.readRecordView 4 = r.body.generation
    ∧ s.readRecordView 5 = r.body.address.setWidth 8 ∧ s.readRecordView 6 = r.body.start
    ∧ s.readRecordView 7 = BitVec.ofNat 8 r.body.data.length ∧ s.readRecordView 8 = r.body.flagsByte
    ∧ s.readRecordView 9 = r.number ∧ s.readRecordView 10 = r.body.data.getD s.window.dataIndex 0 := by
  simp [State.readRecordView, records]

/-- An empty queue shows the data index alone (R99). -/
theorem State.readRecordView_of_nil (records : s.queue.records = []) {n : Nat} (item : n ≠ 11) :
    s.readRecordView n = 0 := by
  simp [State.readRecordView, records, item]

/-- Positions 12 to 15 of page 1 are reserved (10.7). -/
theorem State.readRecordView_reserved (s : State) {n : Nat} (reserved : 12 ≤ n) : s.readRecordView n = 0 := by
  unfold State.readRecordView
  rw [if_neg (by omega)]
  split
  · rfl
  · split
    case h_12 => rfl
    all_goals omega

end Page

/-! ## Flag bits (10.7) -/

/-- Two flags in bits 0 and 1 are their sum. -/
theorem bitAt_zero_or_one (a b : Bool) :
    bitAt 0 a ||| bitAt 1 b = (if a then 1 else 0) + (if b then 2 else 0) := by
  cases a <;> cases b <;> decide

/-- A flag in bit 7 stands above a count of seven bits. -/
theorem toNat_bitAt_seven_or (flag : Bool) {n : Nat} (small : n < 128) :
    (bitAt 7 flag ||| BitVec.ofNat 8 n).toNat = n + if flag then 128 else 0 := by
  have count : (BitVec.ofNat 8 n).toNat = n := by
    rw [BitVec.toNat_ofNat, Nat.mod_eq_of_lt (by omega)]
  rw [BitVec.toNat_or, count]
  cases flag with
  | false => exact Nat.zero_or n
  | true =>
    have above := Nat.two_pow_add_eq_or_of_lt (i := 7) small 1
    exact above.symm.trans (Nat.add_comm ..)

/-! ## POP and QUEUE_DEPTH (R102, R103) -/

section Queue

variable {s : State} (awake : s.inReset = false)
include awake

theorem exec_pop_of_cons {r : QueuedRecord} {rest : List QueuedRecord} (records : s.queue.records = r :: rest)
    (v : Byte) : exec (.pop v) s = .next { s with
      queue := { s.queue with records := rest }
      pool := { s.pool with free := s.pool.free + 1 }
      window := { s.window with dataIndex := 0, dataOut := none } } := by
  have popped : s.endRead.popHead = { s with
      queue := { s.queue with records := rest }, pool := s.pool.release 1
      window := { s.window with dataIndex := 0, dataOut := none } } := by
    simp only [State.popHead, State.endRead_queue, records]
    rfl
  exact congrArg _ ((State.hostWrite_of_not_inReset 0x0F v awake).trans popped)

theorem exec_pop_of_nil (records : s.queue.records = []) (v : Byte) :
    exec (.pop v) s = .next { undriven s with queue := { s.queue with emptyPop := true } } := by
  have popped : s.endRead.popHead = { undriven s with queue := { s.queue with emptyPop := true } } := by
    simp only [State.popHead, State.endRead_queue, records]
    rfl
  exact congrArg _ ((State.hostWrite_of_not_inReset 0x0F v awake).trans popped)

theorem exec_emptyPopClear (v : Byte) : exec (.emptyPopClear v) s = .next { undriven s with
    queue := { s.queue with emptyPop := s.queue.emptyPop && !v.getLsbD 7 } } := by
  have cleared : s.queue.writeDepth v = { s.queue with emptyPop := s.queue.emptyPop && !v.getLsbD 7 } := by
    unfold InboundQueue.writeDepth
    cases v.getLsbD 7 <;> simp
  have written : exec (.emptyPopClear v) s = .next { undriven s with queue := s.queue.writeDepth v } :=
    congrArg _ (State.hostWrite_of_not_inReset 0x0A v awake)
  rw [written, cleared]

end Queue

/-- Settles O58. -/
theorem popAndEmptyPop : Obligations.PopAndEmptyPop := by
  intro s v w awake
  refine ⟨fun r rest records => exec_pop_of_cons awake records v, fun empty => exec_pop_of_nil awake empty v,
    exec_emptyPopClear awake v, rfl, fun fits => toNat_bitAt_seven_or _ (by omega), fun empty one => ?_⟩
  refine ⟨_, _, _, _, exec_emptyPopClear awake v, exec_pop_of_nil (by exact awake) (by exact empty) w, rfl,
    exec_pop_of_nil awake empty w, exec_emptyPopClear (by exact awake) v, ?_⟩
  simp [one]

end Sys2Proof.Machine
end

section
/-! PROOFS. The upper half of the window by the page shown (O57), and the locations and positions without an item
(O59). -/

namespace Sys2Proof.Machine

open Sys2Proof.Safety

/-! ## Writes -/

theorem Window.writePage_of_lt {v : Byte} {m : Fin 4} (named : v.toNat = m.val) (w : Window) :
    w.writePage v = { w with page := m } := by
  rw [Window.writePage, dif_pos (named ▸ m.isLt)]
  simp only [named]

theorem Window.writePage_of_le {v : Byte} (large : 4 ≤ v.toNat) (w : Window) : w.writePage v = w := by
  rw [Window.writePage, dif_neg (by omega)]

section Awake

variable {s : State} (awake : s.inReset = false)
include awake

theorem exec_pageWrite (v : Byte) :
    exec (.pageWrite v) s = .next { undriven s with window := (undriven s).window.writePage v } :=
  congrArg _ (State.hostWrite_of_not_inReset 0x02 v awake)

/-- A write to an upper location reaches its position, with D7 to D0 undriven (R169, R176). -/
theorem State.hostWrite_upper {location : Location} {n : Nat} (upper : location.toNat = 16 + n) (v : Byte) :
    s.hostWrite location v = (undriven s).writeUpper n v :=
  (State.hostWrite_of_not_inReset location v awake).trans (State.takeWrite_upper s.endRead upper v)

theorem exec_parameterWrite (i : Fin 16) (v : Byte) :
    exec (.parameterWrite i v) s = .next ((undriven s).writeUpper i v) :=
  congrArg _ (State.hostWrite_upper awake (toNat_upper i.isLt) v)

theorem exec_dataIndexWrite (v : Byte) : exec (.dataIndexWrite v) s = .next ((undriven s).writeUpper 11 v) :=
  congrArg _ (State.hostWrite_upper awake rfl v)

/-- On page 0 a write sets its parameter (R135, R177). -/
theorem exec_parameterWrite_of_page_zero (page : s.window.page = 0) (i : Fin 16) (v : Byte) :
    exec (.parameterWrite i v) s = .next { undriven s with
      engine := { s.engine with params := s.engine.params.set i v } } := by
  rw [exec_parameterWrite awake, State.writeUpper_of_page_zero (s := undriven s) page, Params.put, dif_pos i.isLt]
  rfl

/-- On page 1 a write at position 11 sets the data index (R100). -/
theorem exec_dataIndexWrite_of_page_one (page : s.window.page = 1) (v : Byte) :
    exec (.dataIndexWrite v) s = .next { s with window :=
      { s.window with dataIndex := if v.toNat ≤ 16 then v.toNat else 16, dataOut := none } } := by
  have least : min v.toNat Config.maxDataIndex = if v.toNat ≤ 16 then v.toNat else 16 := Nat.min_def
  rw [exec_dataIndexWrite awake, State.writeUpper_of_page_one (s := undriven s) page, if_pos rfl,
    Window.writeIndex, least]
  rfl

/-- On page 1 no other position takes a write (R176). -/
theorem exec_parameterWrite_of_page_one (page : s.window.page = 1) {i : Fin 16} (other : i ≠ 11) (v : Byte) :
    exec (.parameterWrite i v) s = .next (undriven s) := by
  have position : i.val ≠ 11 := fun same => other (Fin.ext same)
  rw [exec_parameterWrite awake, State.writeUpper_of_page_one (s := undriven s) page, if_neg position]

/-! ## The data port -/

/-- The data port drives the value of its location in the event in which the index is raised (R170). -/
theorem exec_dataPortRead : exec .dataPortRead s = .next { s.readSideEffect 0x1A with
    window := { (s.readSideEffect 0x1A).window with dataOut := some (s.readUpper 10) } } := by
  have value : s.hostRead 0x1A = s.readUpper 10 := s.hostRead_upper (n := 10) (by decide)
  simp only [exec, execDataPortRead, State.hostReadAccess, awake, value]
  rfl

/-- On page 1 the data index is raised, up to 16 (R100). -/
theorem exec_dataPortRead_of_page_one (page : s.window.page = 1) : exec .dataPortRead s = .next { s with window :=
    { s.window with
      dataOut := some (s.readRecordView 10)
      dataIndex := if s.window.dataIndex < 16 then s.window.dataIndex + 1 else s.window.dataIndex } } := by
  rw [exec_dataPortRead awake, State.readUpper_of_page_one page, State.readSideEffect]
  by_cases below : s.window.dataIndex < 16
  · rw [if_pos ⟨rfl, page, below⟩, if_pos below]
  · rw [if_neg fun ⟨_, _, low⟩ => below low, if_neg below]

/-- On another page the data index stays (R176). -/
theorem exec_dataPortRead_of_other_page (page : s.window.page ≠ 1) : exec .dataPortRead s = .next { s with window :=
    { s.window with dataOut := some (s.readUpper 10), dataIndex := s.window.dataIndex } } := by
  rw [exec_dataPortRead awake, State.readSideEffect, if_neg fun ⟨_, shown, _⟩ => page shown]

end Awake

/-! ## The request view (R179) -/

section Request

variable {x : Segment}

theorem Segment.readRequestView_flags (x : Segment) : x.readRequestView 0 =
    (if x.state.request.isSome then 1 else 0) + (if x.expiryMemory.isSome then 2 else 0) := bitAt_zero_or_one ..

theorem Segment.readRequestView_of_some {r : Request} (request : x.state.request = some r) :
    x.readRequestView 1 = r.sequence ∧ x.readRequestView 2 = BitVec.ofNat 8 r.target.val
    ∧ x.readRequestView 3 = r.sub ∧ x.readRequestView 4 = r.position
    ∧ x.readRequestView 6 = BitVec.ofNat 8 r.remaining := by
  simp [Segment.readRequestView, request]

/-- Without a request its items read `$00`. -/
theorem Segment.readRequestView_of_none (request : x.state.request = none) {n : Nat} (item : n ≠ 0)
    (other : n ≠ 5) : x.readRequestView n = 0 := by
  unfold Segment.readRequestView
  split
  · exact absurd rfl item
  · exact absurd rfl other
  · rw [request]

theorem Segment.readRequestView_memory (x : Segment) : x.readRequestView 5 = x.expiryMemory.getD 0 := rfl

/-- Seven positions that read the request view of a segment show its items (10.7). -/
theorem Segment.requestView_shown {reads : Nat → Byte} {first : Nat}
    (view : ∀ n < 7, reads (first + n) = x.readRequestView n) :
    reads first = (if x.state.request.isSome then 1 else 0) + (if x.expiryMemory.isSome then 2 else 0)
    ∧ (∀ r, x.state.request = some r → reads (first + 1) = r.sequence
        ∧ reads (first + 2) = BitVec.ofNat 8 r.target.val ∧ reads (first + 3) = r.sub
        ∧ reads (first + 4) = r.position ∧ reads (first + 6) = BitVec.ofNat 8 r.remaining)
    ∧ ∀ m, x.expiryMemory = some m → reads (first + 5) = m := by
  refine ⟨(view 0 (by decide)).trans x.readRequestView_flags, fun r request => ?_, fun m memory => ?_⟩
  · rw [view 1 (by decide), view 2 (by decide), view 3 (by decide), view 4 (by decide), view 6 (by decide)]
    exact Segment.readRequestView_of_some request
  · rw [view 5 (by decide), Segment.readRequestView_memory, memory]
    rfl

end Request

/-- Settles O57: PAGE, then the accesses on page 0, on page 1, on pages 2 and 3, and the views of page 2 and of
page 3. -/
theorem upperHalfFollowsThePage : Obligations.UpperHalfFollowsThePage := by
  intro s i v awake n raised reads drives requestView counters
  have read {position : Nat} (small : position < 16) : reads position = s.readUpper position :=
    s.hostRead_upper small
  refine ⟨fun m named => ?_, fun large => ?_, rfl, fun page => ?_, fun page => ?_, fun page => ?_, fun page => ?_,
    fun page => ?_⟩
  · rw [exec_pageWrite awake, Window.writePage_of_lt named]
    rfl
  · rw [exec_pageWrite awake, Window.writePage_of_le large]
  · have value : s.readUpper 10 = s.engine.params[10] := State.readUpper_of_page_zero page 10
    refine ⟨exec_parameterWrite_of_page_zero awake page i v,
      (exec_dataIndexWrite awake v).trans (exec_parameterWrite awake 11 v).symm, ?_,
      (read i.isLt).trans (State.readUpper_of_page_zero page i)⟩
    rw [exec_dataPortRead_of_other_page awake (by rw [page]; decide), value]
  · have view {position : Nat} (small : position < 16) : reads position = s.readRecordView position :=
      (read small).trans (State.readUpper_of_page_one page position)
    refine ⟨exec_dataIndexWrite_of_page_one awake page v,
      (exec_parameterWrite awake 11 v).trans (exec_dataIndexWrite awake v).symm,
      fun other => exec_parameterWrite_of_page_one awake page other v, view (by decide),
      fun r rest records => ?_, fun empty => ?_⟩
    · obtain ⟨valid, segment, cause, target, generation, address, start, count, flags, number, byte⟩ :=
        State.readRecordView_of_cons records
      rw [exec_dataPortRead_of_page_one awake page, byte]
      refine ⟨rfl, (view (by decide)).trans valid, (view (by decide)).trans (segment.trans rfl),
        (view (by decide)).trans (cause.trans rfl), (view (by decide)).trans target,
        (view (by decide)).trans generation, (view (by decide)).trans address, (view (by decide)).trans start,
        (view (by decide)).trans count, (view (by decide)).trans (flags.trans (bitAt_zero_or_one ..)),
        (view (by decide)).trans number, (view (by decide)).trans byte⟩
    · rw [exec_dataPortRead_of_page_one awake page, State.readRecordView_of_nil empty (by decide)]
  · have still (m : Nat) := State.writeUpper_of_page_two_three (s := undriven s) page m v
    rw [exec_parameterWrite awake, exec_dataIndexWrite awake, still, still]
    exact ⟨rfl, rfl⟩
  · refine ⟨Segment.requestView_shown fun m small => ?_, Segment.requestView_shown fun m small => ?_,
      fun fits => ?_, fun b sub none => ?_⟩
    · rw [Nat.zero_add, read (by omega), State.readUpper_requestA page small]
    · rw [read (by omega), State.readUpper_requestB page small]
    · rw [read (by decide), State.readUpper_staging page]
      exact toNat_bitAt_seven_or _ (by omega)
    · have value : s.segB.readRequestView 3 = b := by
        cases request : s.segB.state.request with
        | none => rw [Segment.readRequestView_of_none request (by decide) (by decide), none request]
        | some r =>
          obtain ⟨-, -, held, -⟩ := Segment.readRequestView_of_some request
          rw [held, sub r request]
      rw [exec_dataPortRead_of_other_page awake (by rw [page]; decide),
        State.readUpper_requestB page (n := 3) (by decide), value]
  · have first {m : Nat} (small : m < 8) : reads m = s.segA.counters.read m :=
      (read (by omega)).trans (State.readUpper_countersA page small)
    have second {m : Nat} (small : m < 8) : reads (8 + m) = s.segB.counters.read m :=
      (read (by omega)).trans (State.readUpper_countersB page m)
    refine ⟨⟨first (by decide), first (by decide), first (by decide), first (by decide), first (by decide)⟩,
      ⟨second (m := 0) (by decide), second (by decide), second (by decide), second (by decide),
        second (by decide)⟩, ?_⟩
    rw [exec_dataPortRead_of_other_page awake (by rw [page]; decide), State.readUpper_countersB page 2]
    rfl

/-! ## Locations and positions without an item -/

section Awake

variable {s : State} (awake : s.inReset = false) {location : Location}
include awake

/-- HOST_STATE takes no write (R163). -/
theorem State.hostWrite_hostState (host : location.toNat = 0x03) (v : Byte) :
    s.hostWrite location v = undriven s := by
  obtain rfl : location = 0x03 := BitVec.eq_of_toNat_eq host
  exact State.hostWrite_of_not_inReset 0x03 v awake

/-- PAGE disregards a value above 3 (R175). -/
theorem State.hostWrite_page (page : location.toNat = 0x02) {v : Byte} (large : 4 ≤ v.toNat) :
    s.hostWrite location v = undriven s := by
  obtain rfl : location = 0x02 := BitVec.eq_of_toNat_eq page
  have same : (undriven s).window.writePage v = (undriven s).window := Window.writePage_of_le large _
  exact (State.hostWrite_of_not_inReset 0x02 v awake).trans
    (congrArg (fun w => { undriven s with window := w }) same)

/-- ANSWER_CTRL disregards a value that is neither COMMIT nor CLEAR (R117). -/
theorem State.hostWrite_answerControl (control : location.toNat = 0x0E) {v : Byte} (notCommit : v ≠ 1)
    (notClear : v ≠ 2) : s.hostWrite location v = undriven s := by
  obtain rfl : location = 0x0E := BitVec.eq_of_toNat_eq control
  have disregarded : (undriven s).writeAnswerControl v = undriven s := by
    rw [State.writeAnswerControl, if_neg notCommit, if_neg notClear]
  exact (State.hostWrite_of_not_inReset 0x0E v awake).trans disregarded

/-- The upper half takes no write on pages 2 and 3, and on page 1 the data index alone (R176). -/
theorem State.hostWrite_upper_disregarded (upper : 0x10 ≤ location.toNat)
    (shown : s.window.page = 2 ∨ s.window.page = 3 ∨ (s.window.page = 1 ∧ location.toNat ≠ 0x1B)) (v : Byte) :
    s.hostWrite location v = undriven s := by
  obtain ⟨n, position⟩ := Nat.exists_eq_add_of_le upper
  rw [State.hostWrite_upper awake position]
  rcases shown with page | page | ⟨page, other⟩
  · exact State.writeUpper_of_page_two_three (s := undriven s) (.inl page) n v
  · exact State.writeUpper_of_page_two_three (s := undriven s) (.inr page) n v
  · rw [State.writeUpper_of_page_one (s := undriven s) page, if_neg (by omega)]

theorem exec_disregardedWrite (location : Location) (v : Byte) :
    exec (.disregardedWrite location v) s = .next (undriven s) := by
  simp only [exec, execDisregardedWrite, State.hostWriteDisregarded, awake]
  rfl

end Awake

/-- A segment has five counters (R69): positions 5 to 7 of its half of page 3 are reserved. -/
theorem Counters.read_reserved (c : Counters) {n : Nat} (reserved : 5 ≤ n) : c.read n = 0 := by
  unfold Counters.read
  split
  case h_6 => rfl
  all_goals omega

theorem State.readUpper_reserved_of_page_two {s : State} (page : s.window.page = 2) : s.readUpper 15 = 0 := by
  simp [State.readUpper, page]

/-- Settles O59. -/
theorem locationsWithoutAnItem : Obligations.LocationsWithoutAnItem := by
  intro s location value n l p reads
  have read : reads = s.readUpper n := s.hostRead_upper n.isLt
  have view (page : p = 1) : reads = s.readRecordView n := read.trans (State.readUpper_of_page_one page n)
  have requestA (page : p = 2) {m : Nat} (at_ : n.val = m) (first : m < 7) :
      reads = s.segA.readRequestView m := by
    rw [read, at_, State.readUpper_requestA page first]
  have requestB (page : p = 2) {m : Nat} (at_ : n.val = 7 + m) (second : m < 7) :
      reads = s.segB.readRequestView m := by
    rw [read, at_, State.readUpper_requestB page second]
  refine ⟨fun awake => ⟨?_, exec_disregardedWrite awake location value⟩, rfl, rfl, rfl, fun page reserved => ?_,
    fun page empty item => ?_, fun page last => ?_, fun page none item => ?_, fun page none item => ?_,
    fun page none item => ?_, fun page none item => ?_, fun page item => ?_⟩
  · rintro (host | ⟨page, large⟩ | ⟨control, notCommit, notClear⟩ | ⟨upper, shown⟩)
    · exact State.hostWrite_hostState awake host value
    · exact State.hostWrite_page awake page large
    · exact State.hostWrite_answerControl awake control notCommit notClear
    · exact State.hostWrite_upper_disregarded awake upper shown value
  · exact (view page).trans (s.readRecordView_reserved reserved)
  · exact (view page).trans (State.readRecordView_of_nil empty fun same => item (Fin.ext same))
  · rw [read, last]
    exact State.readUpper_reserved_of_page_two page
  · obtain ⟨first, some, other⟩ : n.val < 7 ∧ n.val ≠ 0 ∧ n.val ≠ 5 := by
      simp only [List.mem_cons, List.not_mem_nil, or_false, Fin.ext_iff] at item
      omega
    exact (requestA page rfl first).trans (Segment.readRequestView_of_none none some other)
  · obtain ⟨m, at_, second, some, other⟩ : ∃ m, n.val = 7 + m ∧ m < 7 ∧ m ≠ 0 ∧ m ≠ 5 := by
      simp only [List.mem_cons, List.not_mem_nil, or_false, Fin.ext_iff] at item
      exact ⟨n.val - 7, by omega, by omega, by omega, by omega⟩
    exact (requestB page at_ second).trans (Segment.readRequestView_of_none none some other)
  · rw [requestA page (m := 5) (congrArg Fin.val item) (by decide), Segment.readRequestView_memory, none]
    rfl
  · rw [requestB page (m := 5) (congrArg Fin.val item) (by decide), Segment.readRequestView_memory, none]
    rfl
  · have place : 5 ≤ n.val ∧ n.val < 8 ∨ ∃ m, n.val = 8 + m ∧ 5 ≤ m := by
      simp only [List.mem_cons, List.not_mem_nil, or_false, Fin.ext_iff] at item
      by_cases first : n.val < 8
      · exact .inl (by omega)
      · exact .inr ⟨n.val - 8, by omega, by omega⟩
    rcases place with ⟨reserved, first⟩ | ⟨m, at_, reserved⟩
    · rw [read, State.readUpper_countersA page first, Counters.read_reserved _ reserved]
    · rw [read, at_, State.readUpper_countersB page, Counters.read_reserved _ reserved]

end Sys2Proof.Machine
end

section
/-! PROOFS. The answer port (7.3, 7.4): which request a number names, how a commit is judged, and what it delivers
(O37, O38). -/

namespace Sys2Proof.Machine

open Sys2Proof.Safety

/-! ## Which request a number names (R115) -/

section Numbered

variable {s : State} {n : Byte}

theorem Segment.stretchedOn_of_stretched {x : Segment} {t : Txn} {r : Request} (state : x.state = .rStretch t r)
    (number : r.sequence = n) : x.stretchedOn n = some (t, r) := by
  rw [Segment.stretchedOn, state]
  exact if_pos number

/-- A number that no outstanding request carries names none. -/
theorem State.requestNumbered_eq_none (other : ∀ g r, (s.seg g).state.request = some r → r.sequence ≠ n) :
    s.requestNumbered n = none := by
  refine Option.eq_none_iff_forall_ne_some.2 fun ⟨g, t, r⟩ named => ?_
  obtain ⟨state, number⟩ := State.requestNumbered_some named
  exact other g r (SegState.request_eq_some.2 ⟨t, state⟩) number

/-- Lawful segments have requests with distinct numbers (R114), so a number that an outstanding request carries
names that request. -/
theorem State.requestNumbered_of_stretched (law : SegmentsLawful s) {g : Seg} {t : Txn} {r : Request}
    (state : (s.seg g).state = .rStretch t r) (number : r.sequence = n) :
    s.requestNumbered n = some (g, t, r) := by
  obtain ⟨-, -, distinct⟩ := law
  have own := Segment.stretchedOn_of_stretched state number
  cases g with
  | A => rw [State.requestNumbered, show s.segA.stretchedOn n = some (t, r) from own]
  | B =>
    have first : s.segA.stretchedOn n = none := by
      refine Option.eq_none_iff_forall_ne_some.2 fun ⟨u, q⟩ named => ?_
      have found : s.requestNumbered n = some (.A, u, q) := by rw [State.requestNumbered, named]
      obtain ⟨stateA, same⟩ := State.requestNumbered_some found
      exact distinct q r (SegState.request_eq_some.2 ⟨u, stateA⟩) (SegState.request_eq_some.2 ⟨t, state⟩)
        (same.trans number.symm)
    rw [State.requestNumbered, first, show s.segB.stretchedOn n = some (t, r) from own]

end Numbered

/-! ## The judgement of a commit (R118) -/

section Judgement

variable {s : State}

theorem State.inExpiryMemory_iff (n : Byte) :
    s.inExpiryMemory n = true ↔ s.segA.expiryMemory = some n ∨ s.segB.expiryMemory = some n := by
  simp [State.inExpiryMemory]

theorem State.commitOutcome_of_accepted {found : Seg × Txn × Request} (fits : s.dru.overlong = false)
    (staged : s.dru.staging ≠ []) (named : s.requestNumbered s.dru.answerSeq = some found) :
    s.commitOutcome = .accepted := by
  simp only [State.commitOutcome, fits, named, List.isEmpty_iff, staged, Bool.false_eq_true, if_false]

/-- Without a request to deliver to, or bytes to deliver, the first of the other four outcomes that applies. -/
theorem State.commitOutcome_of_undelivered (undelivered :
    (∀ g r, (s.seg g).state.request = some r → r.sequence ≠ s.dru.answerSeq) ∨ s.dru.overlong = true
      ∨ s.dru.staging = []) :
    s.commitOutcome = if s.dru.overlong then .overlong else if s.dru.staging = [] then .empty
      else if s.segA.expiryMemory = some s.dru.answerSeq ∨ s.segB.expiryMemory = some s.dru.answerSeq then .late
      else .noRequest := by
  simp only [State.commitOutcome, List.isEmpty_iff, State.inExpiryMemory_iff]
  rcases undelivered with other | overlong | empty
  · rw [State.requestNumbered_eq_none other]
  · rw [if_pos overlong, if_pos overlong]
  · rw [if_pos empty, if_pos empty]

/-- A commit that is not ACCEPTED reaches the Deferred Read Unit alone. -/
theorem State.commitAnswer_of_ne_accepted (rejected : s.commitOutcome ≠ .accepted) :
    s.commitAnswer = { s with dru := { s.dru.emptyStaging with lastOutcome := s.commitOutcome } } := by
  unfold State.commitAnswer
  cases outcome : s.commitOutcome with
  | accepted => exact absurd outcome rejected
  | overlong | empty | late | noRequest => rfl

theorem State.commitAnswer_of_accepted {g : Seg} {t : Txn} {r : Request} (accepted : s.commitOutcome = .accepted)
    (named : s.requestNumbered s.dru.answerSeq = some (g, t, r)) :
    s.commitAnswer = { s.deliver g t r s.dru.staging with
      dru := { s.dru.emptyStaging with lastOutcome := .accepted } } := by
  simp only [State.commitAnswer, accepted, named]

end Judgement

/-! ## The bytes read ahead (R120) -/

theorem loadedAhead_bytes (p : Byte) (rest : List Byte) :
    (loadedAhead p rest).bytes = rest.take (255 - p.toNat) := by
  unfold loadedAhead
  cases rest.take (255 - p.toNat) <;> rfl

theorem loadedAhead_next {p : Byte} {rest : List Byte} (loaded : (loadedAhead p rest).bytes ≠ []) :
    (loadedAhead p rest).next = p.toNat + 1 := by
  rw [loadedAhead_bytes] at loaded
  unfold loadedAhead
  cases taken : rest.take (255 - p.toNat) with
  | nil => exact absurd taken loaded
  | cons b more => rfl

/-- The byte read ahead for the `i`-th sub-address after `p`: none beyond sub-address 255. -/
theorem loadedAhead_getElem? (p : Byte) (rest : List Byte) (i : Nat) :
    (loadedAhead p rest).bytes[i]? = if p.toNat + 1 + i ≤ 255 then rest[i]? else none := by
  have within : i < 255 - p.toNat ↔ p.toNat + 1 + i ≤ 255 := by omega
  simp only [loadedAhead_bytes, List.getElem?_take, within]

theorem State.deliver_cons (s : State) (g : Seg) (t : Txn) (r : Request) (b : Byte) (rest : List Byte) :
    s.deliver g t r (b :: rest) =
      s.setSeg g (restarted (sendingByte { t with ahead := loadedAhead r.sub rest } b (s.seg g))) := rfl

/-! ## Staging (R116) -/

theorem ReadUnit.stage_of_lt {d : ReadUnit} (room : d.staging.length < 8) (b : Byte) :
    d.stage b = { d with staging := d.staging ++ [b] } :=
  if_pos room

theorem ReadUnit.stage_of_le {d : ReadUnit} (full : 8 ≤ d.staging.length) (b : Byte) :
    d.stage b = { d with overlong := true } :=
  if_neg (Nat.not_lt.2 full)

/-! ## The commands of the port -/

@[simp] theorem undriven_seg (s : State) (g : Seg) : (undriven s).seg g = s.seg g := by
  cases g <;> rfl

section Awake

variable {s : State} (awake : s.inReset = false)
include awake

theorem exec_answerSeqWrite (v : Byte) :
    exec (.answerSeqWrite v) s = .next { undriven s with dru := { s.dru with answerSeq := v } } :=
  congrArg _ (State.hostWrite_of_not_inReset 0x0C v awake)

theorem exec_answerDataWrite (v : Byte) :
    exec (.answerDataWrite v) s = .next { undriven s with dru := s.dru.stage v } :=
  congrArg _ (State.hostWrite_of_not_inReset 0x0D v awake)

theorem exec_clear : exec .clear s = .next { undriven s with dru := s.dru.emptyStaging } :=
  congrArg _ (State.hostWrite_of_not_inReset 0x0E 0x02 awake)

theorem exec_commit : exec .commit s = .next (undriven s).commitAnswer :=
  congrArg _ (State.hostWrite_of_not_inReset 0x0E 0x01 awake)

end Awake

/-- Settles O37. -/
theorem answerPortStagesAndJudges : Obligations.AnswerPortStagesAndJudges := by
  intro s v awake d
  refine ⟨exec_answerSeqWrite awake v, fun room => ?_, fun full => ?_, exec_clear awake, fun undelivered => ?_,
    rfl, ?_⟩
  · rw [exec_answerDataWrite awake, ReadUnit.stage_of_lt room]
  · rw [exec_answerDataWrite awake, ReadUnit.stage_of_le full]
  · have judged : (undriven s).commitOutcome = _ := State.commitOutcome_of_undelivered (by exact undelivered)
    have rejected : (undriven s).commitOutcome ≠ .accepted := by
      rw [judged]
      split_ifs <;> decide
    rw [exec_commit awake, State.commitAnswer_of_ne_accepted rejected, judged]
    rfl
  · change s.dru.lastOutcome.byte = _
    cases d.lastOutcome <;> rfl

/-- Settles O38: the number written to ANSWER_SEQ names the one request that carries it. -/
theorem acceptedAnswerIsDelivered : Obligations.AcceptedAnswerIsDelivered := by
  intro s g t r b rest awake state number fits staged law
  have bytes : (undriven s).dru.staging = b :: rest := staged
  have named := State.requestNumbered_of_stretched (s := undriven s) law (by rwa [undriven_seg]) number
  have accepted : (undriven s).commitOutcome = .accepted :=
    State.commitOutcome_of_accepted fits (bytes ▸ List.cons_ne_nil b rest) named
  refine ⟨loadedAhead r.sub rest, ?_, loadedAhead_getElem? r.sub rest, loadedAhead_next⟩
  rw [exec_commit awake, State.commitAnswer_of_accepted accepted named, bytes, State.deliver_cons, undriven_seg]
  rfl

end Sys2Proof.Machine
end

section
/-! PROOFS. What a completion does, the result positions it reaches, and the outputs it judges (O42). -/

namespace Sys2Proof.Machine

open Sys2Proof.Safety

/-! ## The outputs a judged Event Unit drives (R161, R162) -/

/-- Two kind sets meet exactly where they share a flag. -/
theorem and_ne_zero_iff_shared (a b : KindSet) :
    (a &&& b != 0) = true ↔ ∃ n, a.getLsbD n = true ∧ b.getLsbD n = true := by
  rw [bne_iff_ne]
  constructor
  · intro meets
    by_contra apart
    refine meets (BitVec.eq_of_getLsbD_eq fun n _ => ?_)
    simpa using fun inA inB => apart ⟨n, inA, inB⟩
  · rintro ⟨n, inA, inB⟩ none
    have flag := congrArg (·.getLsbD n) none
    simp [inA, inB] at flag

/-- A state whose Event Unit has just been judged has its outputs judged (R161, R162). -/
theorem outputsJudged_of_judge {s : State} {e : Events} (judged : s.events = e.judge) : OutputsJudged s := by
  rw [OutputsJudged, judged]
  refine ⟨and_ne_zero_iff_shared .., ?_⟩
  change (e.host == .asleep && e.pending &&& e.wakeEnable != 0) = true ↔ _
  rw [Bool.and_eq_true, beq_iff_eq, and_ne_zero_iff_shared]
  rfl

theorem outputsJudged_complete (s : State) (r : ResultCode) : OutputsJudged (s.complete r) :=
  outputsJudged_of_judge (e := { s.events with pending := s.events.pending ||| EventKind.commandDone.flag }) rfl

/-- COMMAND_DONE is flag 0 (9.1). -/
theorem pending_post_commandDone (e : Events) (n : Nat) :
    (e.post .commandDone).pending.getLsbD n = (e.pending.getLsbD n || n == 0) := by
  change (e.pending ||| BitVec.twoPow 10 0).getLsbD n = _
  simp [BitVec.getLsbD_twoPow, beq_eq_decide, eq_comm]

/-! ## Result positions (R140, R152) -/

theorem Params.put_getElem (p : Params) (i : Nat) (b : Byte) (j : Fin 16) :
    (p.put i b)[j] = if j.val = i then b else p[j] := by
  unfold Params.put
  split
  · simp [Vector.getElem_set, eq_comm]
  · rw [if_neg (by omega)]

/-- Each result byte reaches its own position, and every other position keeps its value. -/
theorem Params.putAll_getElem (bytes : List Byte) (j : Fin 16) : ∀ (p : Params) (first : Nat),
    (p.putAll first bytes)[j] = if first ≤ j.val ∧ j.val < first + bytes.length
      then bytes.getD (j.val - first) 0 else p[j] := by
  induction bytes with
  | nil => intro p first; rw [if_neg (by simp)]; rfl
  | cons b rest ih =>
    intro p first
    rw [Params.putAll, ih, Params.put_getElem, List.length_cons]
    by_cases own : j.val = first
    · rw [if_neg (by omega), if_pos own, if_pos (by omega), own, Nat.sub_self, List.getD_cons_zero]
    · by_cases later : first + 1 ≤ j.val ∧ j.val < first + 1 + rest.length
      · have next : j.val - first = j.val - (first + 1) + 1 := by omega
        rw [if_pos later, if_pos (by omega), next, List.getD_cons_succ]
      · rw [if_neg later, if_neg own, if_neg (by omega)]

/-- Settles O42. -/
theorem completionAndResultPositions : Obligations.CompletionAndResultPositions := by
  intro s r first bytes _
  exact ⟨⟨_, State.complete_eq s r, pending_post_commandDone s.events, rfl, rfl, rfl, outputsJudged_complete s r⟩,
    _, rfl, fun j => Params.putAll_getElem bytes j s.engine.params first⟩

end Sys2Proof.Machine
end

section
/-! PROOFS. Everything a completion check can answer: a refusal, a completion OK or a wait (O43). -/

namespace Sys2Proof.Machine

open Sys2Proof.Safety

/-- The outcomes of a completion check taken in `s`: it is refused and the completion is all that happens
(R141), it takes an effect and completes OK (R140), or the engine waits (R144). -/
inductive State.Checked (s : State) : State → Prop
  | refused (r : ResultCode) : s.Checked (s.complete r)
  | done (u : State) : s.Checked (u.complete .ok)
  | waits (u : State) (g : Seg) (h : Held) : s.Checked (u.await g h)

/-- An engine left IDLE with another result than OK has come from a refusal. -/
theorem State.Checked.eq_complete {s t : State} (checked : s.Checked t) (idle : t.engine.state = .idle)
    (failed : t.engine.result ≠ .ok) : t = s.complete t.engine.result := by
  cases checked with
  | refused r => rfl
  | done u => exact absurd rfl failed
  | waits u g h => cases idle

section Checks

variable (s : State)

theorem State.checkDefine_checked : s.Checked s.checkDefine := by
  unfold State.checkDefine
  split
  · exact .refused _
  split
  · exact .refused _
  split
  · exact .refused _
  split
  · exact .refused _
  · exact .done _

theorem State.checkEnable_checked : s.Checked s.checkEnable := by
  unfold State.checkEnable
  split
  · exact .refused _
  split
  · exact .refused _
  split
  · exact .refused _
  · exact .done _

theorem State.disableGracefully_checked (k : Fin 16) : s.Checked (s.disableGracefully k) := by
  unfold State.disableGracefully
  split
  · exact .waits ..
  · exact .done _

theorem State.checkDisable_checked : s.Checked s.checkDisable := by
  unfold State.checkDisable
  split
  · exact .refused _
  split
  · exact .refused _
  split
  · exact .refused _
  · exact s.disableGracefully_checked _
  · exact .done _

theorem State.checkRelease_checked : s.Checked s.checkRelease := by
  unfold State.checkRelease
  split
  · exact .refused _
  split
  · exact .refused _
  · exact .done _

theorem State.checkVtQuery_checked : s.Checked s.checkVtQuery := by
  unfold State.checkVtQuery
  split
  · exact .refused _
  split
  · exact .done _
  split
  · exact .done _
  · exact .refused _

theorem State.checkRegions_checked : s.Checked s.checkRegions := by
  unfold State.checkRegions
  split
  · exact .refused _
  split
  · exact .refused _
  split
  · exact .refused _
  split
  · exact .refused _
  split
  · exact .waits ..
  · exact .done _

theorem State.checkImagePut_checked : s.Checked s.checkImagePut := by
  unfold State.checkImagePut
  dsimp only
  split
  · exact .refused _
  split
  · exact .refused _
  split
  · exact .refused _
  split
  · split
    · exact .waits ..
    · exact .done _
  · exact .refused _

theorem State.checkImageGet_checked : s.Checked s.checkImageGet := by
  unfold State.checkImageGet
  dsimp only
  split
  · exact .refused _
  split
  · exact .refused _
  split
  · exact .done _
  · exact .refused _

theorem State.checkFlush_checked : s.Checked s.checkFlush := by
  unfold State.checkFlush
  split
  · exact .refused _
  · exact .done _

theorem State.checkQueueConfig_checked : s.Checked s.checkQueueConfig := by
  unfold State.checkQueueConfig
  dsimp only
  split
  · exact .done _
  · exact .refused _

theorem State.checkSegment_checked : s.Checked s.checkSegment := by
  unfold State.checkSegment
  split
  · exact .refused _
  split
  · split
    · exact .waits ..
    · exact .done _
  · exact .done _

theorem State.checkClearCounters_checked : s.Checked s.checkClearCounters := by
  unfold State.checkClearCounters
  split
  · exact .refused _
  · exact .done _

end Checks

/-- A command at its check, whose code is held or not: its check is taken, or nothing happens (R139). -/
theorem State.atCheck_checked {s : State} (code : Byte) {check : State → State} (checked : s.Checked (check s)) :
    s.Checked (s.atCheck code check) ∨ s.atCheck code check = s := by
  rcases State.atCheck_cases s code check with ⟨-, -, -, taken⟩ | nothing
  · exact .inl (taken ▸ checked)
  · exact .inr nothing

/-- The commands that are a completion check, UNKNOWN among them. -/
def checkCommands : List Instr :=
  [.define, .enable, .disable, .release, .vtQuery, .regions, .imagePut, .imageGet, .flush, .queueConfig, .segment,
   .clearCounters, .sleep, .awake, .reinit, .unknown]

/-- What each completion check does: one of the outcomes of a check, or nothing. -/
theorem exec_checked {c : Instr} (mem : c ∈ checkCommands) (s : State) :
    ∃ t, exec c s = .next t ∧ (s.Checked t ∨ t = s) := by
  simp only [checkCommands, List.mem_cons, List.not_mem_nil, or_false] at mem
  rcases mem with rfl | rfl | rfl | rfl | rfl | rfl | rfl | rfl | rfl | rfl | rfl | rfl | rfl | rfl | rfl | rfl
  · exact ⟨_, rfl, State.atCheck_checked _ s.checkDefine_checked⟩
  · exact ⟨_, rfl, State.atCheck_checked _ s.checkEnable_checked⟩
  · exact ⟨_, rfl, State.atCheck_checked _ s.checkDisable_checked⟩
  · exact ⟨_, rfl, State.atCheck_checked _ s.checkRelease_checked⟩
  · exact ⟨_, rfl, State.atCheck_checked _ s.checkVtQuery_checked⟩
  · exact ⟨_, rfl, State.atCheck_checked _ s.checkRegions_checked⟩
  · exact ⟨_, rfl, State.atCheck_checked _ s.checkImagePut_checked⟩
  · exact ⟨_, rfl, State.atCheck_checked _ s.checkImageGet_checked⟩
  · exact ⟨_, rfl, State.atCheck_checked _ s.checkFlush_checked⟩
  · exact ⟨_, rfl, State.atCheck_checked _ s.checkQueueConfig_checked⟩
  · exact ⟨_, rfl, State.atCheck_checked _ s.checkSegment_checked⟩
  · exact ⟨_, rfl, State.atCheck_checked _ s.checkClearCounters_checked⟩
  · exact ⟨_, rfl, State.atCheck_checked _ (.done _)⟩
  · exact ⟨_, rfl, State.atCheck_checked _ (.done _)⟩
  · exact ⟨_, rfl, State.atCheck_checked _ (.done _)⟩
  · by_cases known : s.engine.code ∈ commandCodes
    · exact ⟨s, congrArg Host.Outcome.next (if_pos known), .inr rfl⟩
    · exact ⟨s.atCheck s.engine.code fun u => u.complete .unknown, congrArg Host.Outcome.next (if_neg known),
        State.atCheck_checked _ (.refused .unknown)⟩

/-- Settles O43. -/
theorem refusedCommandTakesNoEffect : Obligations.RefusedCommandTakesNoEffect := by
  intro s t c mem running taken idle failed
  obtain ⟨u, next, outcome⟩ := exec_checked mem s
  obtain rfl : u = t := Host.Outcome.next.inj (next.symm.trans taken)
  rcases outcome with checked | rfl
  · exact checked.eq_complete idle failed
  · rw [running] at idle
    cases idle

end Sys2Proof.Machine
end

section
/-! PROOFS. The Command Engine's own locations (O41, O56), the host state and unknown codes (O54). -/

namespace Sys2Proof.Machine

open Sys2Proof.Safety

/-! ## CMD and CMD_STATUS (R136 to R138, 10.7) -/

theorem Engine.issue_of_idle {e : Engine} (idle : e.state = .idle) (code : Byte) :
    e.issue code = { e with state := .running, code := code, latched := e.params } := by
  simp only [Engine.issue, idle]

theorem Engine.issue_of_busy {e : Engine} (busy : e.state ≠ .idle) (code : Byte) :
    e.issue code = { e with collision := true } := by
  unfold Engine.issue
  split
  · exact absurd (by assumption) busy
  · rfl
  · rfl

theorem Engine.writeStatus_eq (e : Engine) (v : Byte) :
    e.writeStatus v = { e with collision := e.collision && !v.getLsbD 2 } := by
  unfold Engine.writeStatus
  cases v.getLsbD 2 <;> simp

/-- The four items of CMD_STATUS stand at different bits, so that the byte is their sum (10.7). -/
theorem toNat_statusBits (r : ResultCode) (collision waiting busy : Bool) :
    ((r.byte <<< 4) ||| bitAt 2 collision ||| bitAt 1 waiting ||| bitAt 0 busy).toNat =
      16 * r.byte.toNat + (if collision then 4 else 0) + ((if waiting then 2 else 0) + if busy then 1 else 0) := by
  revert collision waiting busy
  cases r <;> decide

theorem Engine.statusByte_toNat (e : Engine) : e.statusByte.toNat = 16 * (match e.result with
      | .ok => 0 | .badIndex => 1 | .badState => 2 | .badParam => 3 | .conflict => 4 | .overlap => 5
      | .aborted => 6 | .unknown => 7)
    + (if e.collision then 4 else 0)
    + (match e.state with | .idle => 0 | .running => 1 | .waiting _ _ => 3) := by
  rw [Engine.statusByte, toNat_statusBits]
  congr 1
  · cases e.result <;> rfl
  · cases e.state <;> rfl

section Awake

variable {s : State} (awake : s.inReset = false)
include awake

theorem exec_commandIssue (v : Byte) :
    exec (.commandIssue v) s = .next { undriven s with engine := s.engine.issue v } :=
  congrArg _ (State.hostWrite_of_not_inReset 0x00 v awake)

theorem exec_clearCollision (v : Byte) :
    exec (.clearCollision v) s = .next { undriven s with engine := s.engine.writeStatus v } :=
  congrArg _ (State.hostWrite_of_not_inReset 0x01 v awake)

theorem exec_abort (v : Byte) : exec (.abort v) s = .next (undriven s).abortCommand :=
  congrArg _ (State.hostWrite_of_not_inReset 0x0B v awake)

end Awake

/-- Settles O41. -/
theorem commandIssueLatchesOrCollides : Obligations.CommandIssueLatchesOrCollides := by
  intro s v awake
  refine ⟨fun idle => ?_, fun busy => ?_, ?_, rfl, s.engine.statusByte_toNat⟩
  · rw [exec_commandIssue awake, Engine.issue_of_idle idle]
  · rw [exec_commandIssue awake, Engine.issue_of_busy busy]
  · rw [exec_clearCollision awake, Engine.writeStatus_eq]

/-! ## ABORT (R17, R147) -/

theorem State.abortCommand_of_waiting {s : State} {g : Seg} {h : Held} (waits : s.engine.state = .waiting g h) :
    s.abortCommand = (s.withdraw h).complete .aborted := by
  simp only [State.abortCommand, waits]

theorem State.abortCommand_of_free {s : State} (free : ∀ g h, s.engine.state ≠ .waiting g h) :
    s.abortCommand = s := by
  unfold State.abortCommand
  split
  · exact absurd (by assumption) (free _ _)
  · rfl
  · rfl

/-- Only a graceful DISABLE has something to take back (R17). -/
theorem State.withdraw_of_not_disable (s : State) {h : Held} (other : ∀ k, h ≠ .disable k) : s.withdraw h = s := by
  cases h with
  | disable k => exact absurd rfl (other k)
  | regions k l => rfl
  | imagePut k offset bytes => rfl
  | segment c => rfl

/-- Settles O56. -/
theorem abortWithdrawsTheWaitingCommand : Obligations.AbortWithdrawsTheWaitingCommand := by
  intro s v awake
  refine ⟨fun g k waits => ?_, fun g h waits other => ?_, fun free => ?_, rfl⟩
  · rw [exec_abort awake, State.abortCommand_of_waiting (s := undriven s) waits]
    rfl
  · rw [exec_abort awake, State.abortCommand_of_waiting (s := undriven s) waits,
      State.withdraw_of_not_disable _ other]
  · rw [exec_abort awake, State.abortCommand_of_free (s := undriven s) free]

/-! ## SLEEP, AWAKE and UNKNOWN (R143, R162 to R165) -/

/-- Settles O54. -/
theorem hostStateAndUnknownCodes : Obligations.HostStateAndUnknownCodes := by
  intro s awake running
  refine ⟨fun code => ⟨(s.setHost .asleep).complete .ok, ?_, outputsJudged_complete _ _, rfl⟩,
    fun code => ⟨(s.setHost .awake).complete .ok, ?_, outputsJudged_complete _ _, rfl⟩, fun other => ?_, ?_⟩
  · exact congrArg _ (State.atCheck_of_running _ awake running code)
  · exact congrArg _ (State.atCheck_of_running _ awake running code)
  · have unknown : s.engine.code ∉ commandCodes := other
    simp only [exec, execUnknown, if_neg unknown, State.atCheck_of_running _ awake running rfl]
  · change s.events.host.byte = _
    cases s.events.host <;> rfl

end Sys2Proof.Machine
end

section
/-! PROOFS. The end of a transaction that a command waits for (O24), and REINIT (O55). -/

namespace Sys2Proof.Machine

open Sys2Proof.Safety

/-! ## The end reaches the waiting command (R146) -/

/-- The end of a transaction up to the command that may wait for it (R64): the segment unbinds and the open
records are committed or discarded. -/
def State.settleEnd (s : State) (g : Seg) (t : Txn) (cause : EndCause) (after : SegState) : State :=
  match cause with
  | .commit c => (s.onSeg g (Segment.unbind after)).commitRecords g c t.records
  | .abandoned => (s.onSeg g (Segment.unbind after)).discardRecords g

theorem State.endTransaction_eq_settleEnd (s : State) (g : Seg) (t : Txn) (cause : EndCause) (after : SegState) :
    s.endTransaction g t cause after = (s.settleEnd g t cause after).completeWaiting g := by
  cases cause <;> rfl

/-- The state with another engine. -/
def State.withEngine (s : State) (e : Engine) : State := { s with engine := e }

theorem State.postIf_withEngine (s : State) (e : Engine) (k : EventKind) (c : Prop) [Decidable c] :
    (if c then (s.withEngine e).post k else s.withEngine e) = (if c then s.post k else s).withEngine e := by
  split <;> rfl

theorem State.postQueueEvents_withEngine (s : State) (e : Engine) (before after : Nat) :
    (s.withEngine e).postQueueEvents before after = (s.postQueueEvents before after).withEngine e := by
  unfold State.postQueueEvents
  rw [State.postIf_withEngine s e .queueArrival (before = 0)]
  exact State.postIf_withEngine ..

/-- A commit neither reads nor changes the engine. -/
theorem State.commitRecords_withEngine (s : State) (e : Engine) (g : Seg) (cause : CommitCause)
    (l : List OpenRecord) : (s.withEngine e).commitRecords g cause l = (s.commitRecords g cause l).withEngine e := by
  unfold State.commitRecords
  dsimp only
  split
  · rfl
  · exact State.postQueueEvents_withEngine { s with
      pool := s.pool.setReserved g 0
      queue := InboundQueue.pushAll cause s.queue l
      window := { s.window with dataIndex := if s.queue.records.length = 0 then 0 else s.window.dataIndex } } e _ _

section SettleEnd

variable (s : State) (g : Seg) (t : Txn) (cause : EndCause) (after : SegState)

theorem State.settleEnd_withEngine (e : Engine) :
    (s.withEngine e).settleEnd g t cause after = (s.settleEnd g t cause after).withEngine e := by
  have unbinds : (s.withEngine e).onSeg g (Segment.unbind after) = (s.onSeg g (Segment.unbind after)).withEngine e := by
    cases g <;> rfl
  cases cause with
  | commit c => rw [State.settleEnd, unbinds, State.commitRecords_withEngine]; rfl
  | abandoned => rw [State.settleEnd, unbinds]; rfl

/-- Before it reaches a waiting command, an end leaves the table, the image and the engine as they are. -/
theorem State.settleEnd_keeps : (s.settleEnd g t cause after).vtt = s.vtt
    ∧ (s.settleEnd g t cause after).image = s.image ∧ (s.settleEnd g t cause after).engine = s.engine := by
  cases cause with
  | commit c =>
    obtain ⟨index, events, equal⟩ :=
      State.commitRecords_eq (s.onSeg g (Segment.unbind after)) g c t.records
    rw [State.settleEnd, equal]
    exact ⟨State.setSeg_vtt .., State.setSeg_image .., State.setSeg_engine ..⟩
  | abandoned => exact ⟨State.setSeg_vtt .., State.setSeg_image .., State.setSeg_engine ..⟩

/-- In the event of the end the awaited command takes its effect and completes OK. -/
theorem State.endTransaction_of_waiting {h : Held} (waits : s.engine.state = .waiting g h) :
    s.endTransaction g t cause after = ((s.settleEnd g t cause after).applyHeld g h).complete .ok := by
  obtain ⟨-, -, engine⟩ := s.settleEnd_keeps g t cause after
  rw [State.endTransaction_eq_settleEnd, State.completeWaiting, engine, waits]
  exact if_pos rfl

/-- While no command waits for it, an end is the settling alone. -/
theorem State.endTransaction_of_free (free : ∀ h, s.engine.state ≠ .waiting g h) :
    s.endTransaction g t cause after = s.settleEnd g t cause after := by
  obtain ⟨-, -, engine⟩ := s.settleEnd_keeps g t cause after
  rw [State.endTransaction_eq_settleEnd, State.completeWaiting_of_free (by rwa [engine])]

end SettleEnd

/-- Settles O24. -/
theorem waitingCommandTakesEffectAtTheEnd : Obligations.WaitingCommandTakesEffectAtTheEnd := by
  intro s g t cause after h waits ended back
  obtain ⟨table, image, engine⟩ := s.settleEnd_keeps g t cause after
  have ends : ended = (s.settleEnd g t cause after).withEngine { s.engine with state := .idle } :=
    (State.endTransaction_of_free _ g t cause after (by simp)).trans (s.settleEnd_withEngine g t cause after _)
  have settled : s.settleEnd g t cause after = back ended := by
    rw [ends]
    simp only [back, ← engine]
    rfl
  rw [State.endTransaction_of_waiting s g t cause after waits, settled]
  cases h with
  | disable k => rfl
  | regions k l => rfl
  | imagePut k offset bytes =>
    have entry : (s.settleEnd g t cause after).entry k = s.entry k := congrArg (·[k]) table
    have written : Memory.writeAll (back ended).image (((back ended).entry k).base + offset.toNat) bytes =
        Memory.writeAll s.image ((s.entry k).base + offset.toNat) bytes := by rw [← settled, image, entry]
    exact congrArg (fun m => State.complete { back ended with image := m } .ok) written
  | segment c => cases g <;> rfl

/-! ## REINIT (R154) -/

/-- An abandonment that no command waits for changes its segment, the pool and the Event Unit alone (R63). -/
theorem State.abandon_of_free {s : State} {g : Seg} (free : ∀ h, s.engine.state ≠ .waiting g h) (after : SegState) :
    ∃ x p e, s.abandon g after = { s.setSeg g x with pool := p, events := e } := by
  cases txn : (s.seg g).txn with
  | none =>
    refine ⟨s.seg g, s.pool, s.events, ?_⟩
    rw [State.abandon_of_unbound after txn, State.setSeg_seg_self]
  | some t =>
    rw [State.abandon_of_bound after txn, State.endTransaction_abandoned (by simpa [State.onSeg] using free)]
    cases g <;> exact ⟨_, _, _, rfl⟩

/-- REINIT leaves COMMAND_DONE pending alone, with nothing enabled and both outputs released (R154, R168). -/
theorem Events.post_clearAll_reinitEnables (e : Events) :
    e.reinitEnables.clearAll.post .commandDone = { Events.reset with pending := 1 } := by
  have flag : 0 ||| EventKind.commandDone.flag = 1 := by decide
  have posted : e.reinitEnables.clearAll.post .commandDone =
      Events.judge { Events.reset with pending := 0 ||| EventKind.commandDone.flag } := rfl
  rw [posted, flag]
  rfl

/-- The whole state after a REINIT (R154, R168). -/
theorem State.checkReinit_eq {s : State} (running : s.engine.state = .running) : s.checkReinit = { s with
    segA := Segment.reset
    segB := Segment.reset
    vtt := Vector.ofFn fun k : Fin 16 => Entry.freeWith (s.entry k).generation
    pool := Pool.reset
    queue := InboundQueue.reset
    dru := ReadUnit.reset
    engine := { s.engine with state := .idle, result := .ok }
    events := { Events.reset with pending := 1 }
    window := { s.window with page := 0, dataIndex := 0 } } := by
  obtain ⟨x, p, e, abandonA⟩ := State.abandon_of_free (s := s) (g := .A) (by simp [running]) .off
  obtain ⟨y, q, d, abandonB⟩ := State.abandon_of_free (s := s.abandon .A .off) (g := .B)
    (by simp [abandonA, running]) .off
  rw [State.checkReinit, abandonB, abandonA, State.complete_eq]
  dsimp only
  rw [State.reinitBlocks, Events.post_clearAll_reinitEnables]
  rfl

/-- Settles O55. -/
theorem reinitKeepsImagesAndGenerations : Obligations.ReinitKeepsImagesAndGenerations := by
  intro s running
  have ⟨awake, state, _⟩ := running
  have taken : exec .reinit s = .next s.checkReinit :=
    congrArg Host.Outcome.next (State.atCheck_eq_of_running running State.checkReinit)
  rw [State.checkReinit_eq state] at taken
  refine ⟨_, taken, fun k => Vector.getElem_ofFn .., fun g => ?_, rfl, rfl, rfl, rfl, rfl, rfl, rfl, awake, rfl,
    fun g => ?_⟩
  · cases g <;> exact ⟨rfl, rfl, rfl, rfl, rfl, rfl, rfl⟩
  · cases g <;> rfl

end Sys2Proof.Machine
end

section
/-! PROOFS. The Event Unit's own operations: a posting (O14), and the writes and reads of the flag locations (O15). -/

namespace Sys2Proof.Machine

open Sys2Proof.Safety

/-! ## Postings (R156) -/

theorem EventKind.number_lt (k : EventKind) : k.number < 10 := by
  cases k <;> decide

/-- A posting sets the flag with its kind's number and no other. -/
theorem Events.pending_post (e : Events) (k : EventKind) (n : Nat) :
    (e.post k).pending.getLsbD n = (e.pending.getLsbD n || n == k.number) := by
  change (e.pending ||| BitVec.twoPow 10 k.number).getLsbD n = _
  simp [BitVec.getLsbD_twoPow, k.number_lt, beq_eq_decide, eq_comm]

/-- Settles O14. -/
theorem postingSetsOneFlag : Obligations.PostingSetsOneFlag := by
  intro s k
  have judged : OutputsJudged (s.post k) :=
    outputsJudged_of_judge (e := { s.events with pending := s.events.pending ||| k.flag }) rfl
  exact ⟨_, State.post_eq s k, s.events.pending_post k, rfl, rfl, rfl, judged⟩

/-! ## The flags of a location (R157, R158, R160) -/

/-- Whether a location of a pair holds the flag of kind `n`. -/
def holdsFlag (n : Nat) : FlagHalf → Bool
  | .first => decide (n < 8)
  | .second => decide (8 ≤ n)

/-- Whether a value written to a location of a pair names kind `n`. -/
def namesFlag (value : Byte) (n : Nat) : FlagHalf → Bool
  | .first => decide (n < 8) && value.getLsbD n
  | .second => decide (8 ≤ n) && value.getLsbD (n - 8)

variable {n : Nat}

theorem getLsbD_flagsAt (half : FlagHalf) (value : Byte) (kind : n < 10) :
    (flagsAt half value).getLsbD n = namesFlag value n half := by
  cases half with
  | first =>
    change (value.setWidth 10).getLsbD n = (decide (n < 8) && value.getLsbD n)
    by_cases low : n < 8
    · simp [kind, low]
    · simp [low, BitVec.getLsbD_of_ge value n (by omega)]
  | second =>
    change (value.setWidth 10 <<< 8).getLsbD n = (decide (8 ≤ n) && value.getLsbD (n - 8))
    by_cases low : n < 8
    · simp [low]
    · simp [kind, low, show 8 ≤ n by omega]

theorem getLsbD_halfMask (half : FlagHalf) (kind : n < 10) : (halfMask half).getLsbD n = holdsFlag n half := by
  have full {i : Nat} (bit : i < 8) : (0xFF : Byte).getLsbD i = true :=
    (BitVec.getLsbD_allOnes (v := 8)).trans (decide_eq_true bit)
  rw [halfMask, getLsbD_flagsAt half _ kind]
  cases half with
  | first =>
    change (decide (n < 8) && _) = decide (n < 8)
    by_cases low : n < 8
    · rw [full low, Bool.and_true]
    · rw [decide_eq_false low, Bool.false_and]
  | second =>
    change (decide (8 ≤ n) && _) = decide (8 ≤ n)
    rw [full (by omega), Bool.and_true]

/-- A name is among the flags the location holds. -/
theorem holdsFlag_of_namesFlag {half : FlagHalf} {value : Byte} (named : namesFlag value n half = true) :
    holdsFlag n half = true := by
  cases half <;> exact (Bool.and_eq_true_iff.1 named).1

/-- A PENDING write clears the flags it names (R158). -/
theorem getLsbD_clearPending (half : FlagHalf) (value : Byte) (e : Events) (kind : n < 10) :
    (e.clearPending half value).pending.getLsbD n = (e.pending.getLsbD n && !namesFlag value n half) := by
  change (e.pending &&& ~~~(flagsAt half value)).getLsbD n = _
  simp only [BitVec.getLsbD_and, BitVec.getLsbD_not, kind, decide_true, Bool.true_and, getLsbD_flagsAt]

/-- An enable write gives the flags of its location the written values (R160). -/
theorem getLsbD_writeEnables (half : FlagHalf) (value : Byte) (set : KindSet) (kind : n < 10) :
    (writeEnables half value set).getLsbD n =
      if holdsFlag n half then namesFlag value n half else set.getLsbD n := by
  have written : (writeEnables half value set).getLsbD n =
      ((set.getLsbD n && !holdsFlag n half) || namesFlag value n half) := by
    simp only [writeEnables, BitVec.getLsbD_or, BitVec.getLsbD_and, BitVec.getLsbD_not, kind, decide_true,
      Bool.true_and, getLsbD_flagsAt, getLsbD_halfMask]
  rw [written]
  cases here : holdsFlag n half with
  | true => simp
  | false =>
    have unnamed : namesFlag value n half = false :=
      Bool.eq_false_iff.2 fun named => by simp [holdsFlag_of_namesFlag named] at here
    simp [unnamed]

/-- The first location shows kinds 0 to 7 at their own positions (R157). -/
theorem getLsbD_halfOf_first (set : KindSet) (position : n < 8) :
    (halfOf set .first).getLsbD n = set.getLsbD n := by
  simp [halfOf, position]

/-- The second location shows kinds 8 and 9 at positions 0 and 1, and no kind elsewhere (R157). -/
theorem getLsbD_halfOf_second (set : KindSet) (position : n < 8) :
    (halfOf set .second).getLsbD n = set.getLsbD (8 + n) := by
  simp [halfOf, position]

/-! ## The commands that write a flag location -/

section Awake

variable {s : State} (awake : s.inReset = false) (half : FlagHalf) (value : Byte)
include awake

theorem exec_pendingClear : exec (.pendingClear half value) s =
    .next { undriven s with events := s.events.clearPending half value } := by
  refine congrArg Host.Outcome.next ((State.hostWrite_of_not_inReset _ value awake).trans ?_)
  cases half <;> rfl

theorem exec_intEnableWrite : exec (.intEnableWrite half value) s =
    .next { undriven s with events := s.events.writeIntEnable half value } := by
  refine congrArg Host.Outcome.next ((State.hostWrite_of_not_inReset _ value awake).trans ?_)
  cases half <;> rfl

theorem exec_wakeEnableWrite : exec (.wakeEnableWrite half value) s =
    .next { undriven s with events := s.events.writeWakeEnable half value } := by
  refine congrArg Host.Outcome.next ((State.hostWrite_of_not_inReset _ value awake).trans ?_)
  cases half <;> rfl

end Awake

/-- Settles O15. -/
theorem flagWritesReachTheirLocation : Obligations.FlagWritesReachTheirLocation := by
  intro s half value awake
  have judged (e : Events) : OutputsJudged { s with events := e.judge } := outputsJudged_of_judge rfl
  refine ⟨⟨_, exec_pendingClear awake half value, ?cleared, rfl, rfl, rfl, judged _⟩,
    ⟨_, exec_intEnableWrite awake half value, ?intEnables, rfl, rfl, rfl, judged _⟩,
    ⟨_, exec_wakeEnableWrite awake half value, ?wakeEnables, rfl, rfl, rfl, judged _⟩, ?reads⟩
  case cleared => exact fun n kind => getLsbD_clearPending half value s.events kind
  case intEnables => exact fun n kind => getLsbD_writeEnables half value s.events.intEnable kind
  case wakeEnables => exact fun n kind => getLsbD_writeEnables half value s.events.wakeEnable kind
  case reads =>
    exact fun n position => ⟨getLsbD_halfOf_first _ position, getLsbD_halfOf_second _ position,
      getLsbD_halfOf_first _ position, getLsbD_halfOf_second _ position,
      getLsbD_halfOf_first _ position, getLsbD_halfOf_second _ position⟩

end Sys2Proof.Machine
end

section
/-! PROOFS. What the part does to the Event Unit: every operation leaves it as it is, or judges its outputs last.
So INT and WAKE stay at the levels of their conditions (O6). -/

namespace Sys2Proof.Machine

open Sys2Proof.Safety

/-! ## The Event Unit from one state to the next -/

/-- From `e` the Event Unit has stayed as it was, or its outputs have been judged last. -/
def Events.Next (e f : Events) : Prop := f = e ∨ ∃ d : Events, f = d.judge

namespace Events

variable {e f g : Events}

theorem next_of_eq (same : f = e) : e.Next f := .inl same

theorem next_judge (e d : Events) : e.Next d.judge := .inr ⟨d, rfl⟩

theorem next_post (e d : Events) (k : EventKind) : e.Next (d.post k) := e.next_judge _

theorem Next.trans (first : e.Next f) (second : f.Next g) : e.Next g := by
  rcases second with rfl | judged
  · exact first
  · exact .inr judged

end Events

/-- Outputs at the levels of their conditions stay there (R161, R162). -/
theorem outputsJudged_of_next {s t : State} (judged : OutputsJudged s) (next : s.events.Next t.events) :
    OutputsJudged t := by
  rcases next with same | ⟨d, last⟩
  · rwa [OutputsJudged, same]
  · exact outputsJudged_of_judge last

/-! ## The operations that leave the Event Unit alone -/

@[simp] theorem State.onSeg_events (s : State) (g : Seg) (f : Segment → Segment) :
    (s.onSeg g f).events = s.events := State.setSeg_events ..

@[simp] theorem State.onEntry_events (s : State) (k : Fin 16) (f : Entry → Entry) :
    (s.onEntry k f).events = s.events := rfl

@[simp] theorem State.lowerClock_events (s : State) (g : Seg) : (s.lowerClock g).events = s.events :=
  State.setLines_events ..

@[simp] theorem State.raiseClock_events (s : State) (g : Seg) (sda : Bool) :
    (s.raiseClock g sda).events = s.events := State.setLines_events ..

@[simp] theorem State.acceptByte_events (s : State) (g : Seg) (t : Txn) :
    (s.acceptByte g t).events = s.events := State.onSeg_events ..

@[simp] theorem State.refuseByte_events (s : State) (g : Seg) (t : Txn) :
    (s.refuseByte g t).events = s.events := State.onSeg_events ..

@[simp] theorem State.applyByte_events (s : State) (k : Fin 16) (b : Byte) :
    (s.applyByte k b).events = s.events := rfl

theorem State.completeAddress_events (s : State) (g : Seg) : (s.completeAddress g).events = s.events := by
  unfold State.completeAddress
  dsimp only
  split <;> simp

theorem State.completeSubAddress_events (s : State) (g : Seg) (t : Txn) :
    (s.completeSubAddress g t).events = s.events := by
  simp [State.completeSubAddress]

theorem State.completeRefused_events (s : State) (g : Seg) (t : Txn) :
    (s.completeRefused g t).events = s.events := by
  simp [State.completeRefused]

theorem State.takeWriteAck_events (s : State) (g : Seg) (t : Txn) (sda : Bool) :
    (s.takeWriteAck g t sda).events = s.events := by
  simp [State.takeWriteAck]

theorem State.takeMasterAck_events (s : State) (g : Seg) (t : Txn) (sda : Bool) :
    (s.takeMasterAck g t sda).events = s.events := by
  simp [State.takeMasterAck]

theorem State.clockEdge_events (s : State) (g : Seg) (edge : ClockEdge) :
    (s.clockEdge g edge).events = s.events := by
  unfold State.clockEdge
  cases edge with
  | rise sda => dsimp only; split <;> split <;> simp
  | fall => dsimp only; split <;> split <;> simp

theorem State.commitAnswer_events (s : State) : s.commitAnswer.events = s.events := by
  rcases State.commitAnswer_cases s with ⟨g, t, r, -, -, equal⟩ | equal
  · rw [equal]; exact State.onSeg_events ..
  · rw [equal]

theorem State.popHead_events (s : State) : s.popHead.events = s.events := by
  unfold State.popHead
  split <;> rfl

theorem State.writeAnswerControl_events (s : State) (value : Byte) :
    (s.writeAnswerControl value).events = s.events := by
  unfold State.writeAnswerControl
  split
  · exact State.commitAnswer_events s
  · split <;> rfl

theorem State.writeUpper_events (s : State) (n : Nat) (value : Byte) :
    (s.writeUpper n value).events = s.events := by
  unfold State.writeUpper
  split
  · rfl
  · split <;> rfl
  · rfl
  · rfl

theorem State.hostReadAccess_events (s : State) (location : Location) :
    (s.hostReadAccess location).events = s.events := by
  unfold State.hostReadAccess State.readSideEffect
  split
  · rfl
  · split <;> rfl

theorem State.hostWriteDisregarded_events (s : State) : s.hostWriteDisregarded.events = s.events := by
  unfold State.hostWriteDisregarded
  split <;> rfl

/-! ## The end of a transaction (4.7) -/

theorem State.postQueueEvents_next (s : State) (before after : Nat) :
    s.events.Next (s.postQueueEvents before after).events := by
  unfold State.postQueueEvents
  dsimp only
  split <;> split
  case isFalse.isFalse => exact Events.next_of_eq rfl
  all_goals exact Events.next_post ..

/-- A commit posts QUEUE_ARRIVAL and QUEUE_LEVEL, each where its condition holds (R97). -/
theorem State.commitRecords_next (s : State) (g : Seg) (cause : CommitCause) (l : List OpenRecord) :
    s.events.Next (s.commitRecords g cause l).events := by
  unfold State.commitRecords
  dsimp only
  split
  · exact Events.next_of_eq rfl
  · exact State.postQueueEvents_next ..

theorem State.completeWaiting_next (s : State) (g : Seg) : s.events.Next (s.completeWaiting g).events := by
  rcases State.completeWaiting_cases s g with ⟨h, -, equal⟩ | ⟨-, equal⟩
  · rw [equal]; exact Events.next_post ..
  · exact Events.next_of_eq (by rw [equal])

theorem State.settleEnd_next (s : State) (g : Seg) (t : Txn) (cause : EndCause) (after : SegState) :
    s.events.Next (s.settleEnd g t cause after).events := by
  have unbinds : (s.onSeg g (Segment.unbind after)).events = s.events := State.onSeg_events ..
  cases cause with
  | commit c => exact (Events.next_of_eq unbinds).trans (State.commitRecords_next ..)
  | abandoned => exact Events.next_of_eq unbinds

theorem State.endTransaction_next (s : State) (g : Seg) (t : Txn) (cause : EndCause) (after : SegState) :
    s.events.Next (s.endTransaction g t cause after).events := by
  rw [State.endTransaction_eq_settleEnd]
  exact (State.settleEnd_next ..).trans (State.completeWaiting_next ..)

/-- An abandonment posts TRANSACTION_ABANDONED before the end takes effect (R63). -/
theorem State.abandon_next (s : State) (g : Seg) (after : SegState) :
    s.events.Next (s.abandon g after).events := by
  cases txn : (s.seg g).txn with
  | none => exact Events.next_of_eq (by rw [State.abandon_of_unbound after txn])
  | some t =>
    rw [State.abandon_of_bound after txn]
    exact (Events.next_post ..).trans (State.endTransaction_next ..)

/-! ## START and STOP -/

/-- A framing break posts FRAMING_BREAK before the end takes effect (R62). -/
theorem State.endByCondition_next (s : State) (g : Seg) (t : Txn) (cause : CommitCause) (after : SegState) :
    s.events.Next (s.endByCondition g t cause after).events := by
  unfold State.endByCondition
  split
  · exact (Events.next_post ..).trans (State.endTransaction_next ..)
  · exact State.endTransaction_next ..

theorem State.recogniseStart_next (s : State) (g : Seg) : s.events.Next (s.recogniseStart g).events := by
  unfold State.recogniseStart
  split
  case h_1 | h_9 => exact Events.next_of_eq rfl
  case h_2 | h_3 | h_4 => exact Events.next_of_eq (State.onSeg_events ..)
  all_goals exact State.endByCondition_next ..

theorem State.recogniseStop_next (s : State) (g : Seg) : s.events.Next (s.recogniseStop g).events := by
  unfold State.recogniseStop
  split
  case h_1 | h_2 | h_9 => exact Events.next_of_eq rfl
  case h_3 | h_4 => exact Events.next_of_eq (State.onSeg_events ..)
  all_goals exact State.endByCondition_next ..

theorem State.startCondition_next (s : State) (g : Seg) : s.events.Next (s.startCondition g).events := by
  have moved (l : Lines) := Events.next_of_eq (State.setLines_events s g l)
  unfold State.startCondition
  dsimp only
  split
  · split
    · exact moved _
    · exact (moved _).trans (State.recogniseStart_next ..)
  · exact Events.next_of_eq rfl

theorem State.stopCondition_next (s : State) (g : Seg) : s.events.Next (s.stopCondition g).events := by
  have moved (l : Lines) := Events.next_of_eq (State.setLines_events s g l)
  unfold State.stopCondition
  dsimp only
  split
  · split
    · exact moved _
    · exact (moved _).trans (State.recogniseStop_next ..)
  · exact Events.next_of_eq rfl

/-! ## Bytes and ticks -/

/-- A byte to be recorded posts POOL_REFUSAL where its reservation is refused (R83). -/
theorem State.recordByte_next (s : State) (g : Seg) (t : Txn) (applied : Bool) :
    s.events.Next (s.recordByte g t applied).events := by
  unfold State.recordByte
  dsimp only
  split
  · exact Events.next_of_eq (by cases applied <;> simp)
  · exact Events.next_of_eq (by cases applied <;> simp)
  · exact Events.next_post ..

theorem State.completeData_next (s : State) (g : Seg) (t : Txn) :
    s.events.Next (s.completeData g t).events := by
  have lowered := Events.next_of_eq (State.lowerClock_events s g)
  rcases State.completeData_cases s g t with equal | equal | ⟨applied, equal⟩
  · exact Events.next_of_eq (by simp [equal])
  · exact Events.next_of_eq (by simp [equal])
  · rw [equal]; exact lowered.trans (State.recordByte_next ..)

/-- A need posts DEFERRED_FILLED where it is filled, and its segment's REQUEST where it is asked (R110, R112). -/
theorem State.needByte_next (s : State) (g : Seg) (t : Txn) : s.events.Next (s.needByte g t).events := by
  rcases State.needByte_cases s g t with ⟨ahead, b, equal⟩ | ⟨b, equal⟩ | equal
  · rw [equal]; exact Events.next_of_eq (State.onSeg_events ..)
  · rw [equal]; exact Events.next_post ..
  · rw [equal]; exact Events.next_post ..

theorem State.takeByteNeed_next (s : State) (g : Seg) (t : Txn) :
    s.events.Next (s.takeByteNeed g t).events :=
  (Events.next_of_eq (by simp)).trans (State.needByte_next ..)

theorem State.tickSegment_next (s : State) (g : Seg) : s.events.Next (s.tickSegment g).events := by
  unfold State.tickSegment
  split
  · split
    · exact Events.next_post ..
    · exact Events.next_of_eq (State.onSeg_events ..)
  · split
    · exact Events.next_of_eq rfl
    · split
      · exact State.abandon_next ..
      · exact Events.next_of_eq (State.onSeg_events ..)

/-! ## Host accesses -/

theorem State.abortCommand_next (s : State) : s.events.Next s.abortCommand.events := by
  unfold State.abortCommand
  split
  · exact Events.next_post ..
  · exact Events.next_of_eq rfl
  · exact Events.next_of_eq rfl

/-- Of the writes to the window those of the flags and ABORT reach the Event Unit (R147, R158, R160). -/
theorem State.hostWrite_next (s : State) (location : Location) (value : Byte) :
    s.events.Next (s.hostWrite location value).events := by
  unfold State.hostWrite
  split
  · exact Events.next_of_eq rfl
  unfold State.takeWrite
  split
  case h_5 | h_6 | h_7 | h_8 | h_9 | h_10 => exact Events.next_judge ..
  case h_12 => exact State.abortCommand_next s.endRead
  case h_15 => exact Events.next_of_eq (State.writeAnswerControl_events s.endRead value)
  case h_16 => exact Events.next_of_eq (State.popHead_events s.endRead)
  case h_17 => exact Events.next_of_eq (State.writeUpper_events s.endRead _ value)
  all_goals exact Events.next_of_eq rfl

end Sys2Proof.Machine
end

section
/-! PROOFS. Completion checks and the Event Unit: a check that completes posts COMMAND_DONE last, and one that waits
leaves the Event Unit alone. With it every command and every step keeps INT and WAKE at their levels (O6). -/

namespace Sys2Proof.Machine

open Sys2Proof.Safety

/-! ## Checks that always complete (R140, R141) -/

section Completed

variable (s : State)

theorem State.checkDefine_next : s.events.Next s.checkDefine.events := by
  unfold State.checkDefine
  repeat' split
  all_goals exact Events.next_post ..

theorem State.checkEnable_next : s.events.Next s.checkEnable.events := by
  unfold State.checkEnable
  repeat' split
  all_goals exact Events.next_post ..

theorem State.checkRelease_next : s.events.Next s.checkRelease.events := by
  unfold State.checkRelease
  repeat' split
  all_goals exact Events.next_post ..

theorem State.checkVtQuery_next : s.events.Next s.checkVtQuery.events := by
  unfold State.checkVtQuery
  repeat' split
  all_goals exact Events.next_post ..

theorem State.checkImageGet_next : s.events.Next s.checkImageGet.events := by
  unfold State.checkImageGet
  dsimp only
  repeat' split
  all_goals exact Events.next_post ..

theorem State.checkFlush_next : s.events.Next s.checkFlush.events := by
  unfold State.checkFlush
  split
  · exact Events.next_post ..
  · exact Events.next_post ..

theorem State.checkQueueConfig_next : s.events.Next s.checkQueueConfig.events := by
  unfold State.checkQueueConfig
  dsimp only
  split
  · exact Events.next_post ..
  · exact Events.next_post ..

theorem State.checkClearCounters_next : s.events.Next s.checkClearCounters.events := by
  unfold State.checkClearCounters
  split
  · exact Events.next_post ..
  · exact Events.next_post ..

end Completed

/-! ## Checks that may wait (R144) -/

section Waiting

variable (s : State)

theorem State.disableGracefully_next (k : Fin 16) : s.events.Next (s.disableGracefully k).events := by
  unfold State.disableGracefully
  split
  · exact Events.next_of_eq rfl
  · exact Events.next_post ..

theorem State.checkDisable_next : s.events.Next s.checkDisable.events := by
  unfold State.checkDisable
  split
  · exact Events.next_post ..
  split
  · exact Events.next_post ..
  split
  · exact Events.next_post ..
  · exact s.disableGracefully_next _
  · exact Events.next_post ..

theorem State.checkRegions_next : s.events.Next s.checkRegions.events := by
  unfold State.checkRegions
  split
  · exact Events.next_post ..
  split
  · exact Events.next_post ..
  split
  · exact Events.next_post ..
  split
  · exact Events.next_post ..
  split
  · exact Events.next_of_eq rfl
  · exact Events.next_post ..

theorem State.checkImagePut_next : s.events.Next s.checkImagePut.events := by
  unfold State.checkImagePut
  dsimp only
  split
  · exact Events.next_post ..
  split
  · exact Events.next_post ..
  split
  · exact Events.next_post ..
  split
  · split
    · exact Events.next_of_eq rfl
    · exact Events.next_post ..
  · exact Events.next_post ..

theorem State.checkSegment_next : s.events.Next s.checkSegment.events := by
  unfold State.checkSegment
  split
  · exact Events.next_post ..
  split
  · split
    · exact Events.next_of_eq rfl
    · exact Events.next_post ..
  · exact Events.next_post ..

end Waiting

theorem State.atCheck_next {s : State} (code : Byte) {check : State → State}
    (checked : s.events.Next (check s).events) : s.events.Next (s.atCheck code check).events := by
  rcases State.atCheck_cases s code check with ⟨-, -, -, taken⟩ | nothing
  · rwa [taken]
  · exact Events.next_of_eq (by rw [nothing])

/-! ## Every command and every step -/

/-- Every command leaves the Event Unit as it is, or judges its outputs last. -/
theorem exec_events_next (c : Instr) (s : State) : ∃ t, exec c s = .next t ∧ s.events.Next t.events := by
  have nothing : s.events.Next s.events := Events.next_of_eq rfl
  have completes (code : Byte) (r : ResultCode) (prepare : State → State) :
      s.events.Next (s.atCheck code fun u => (prepare u).complete r).events :=
    State.atCheck_next code (Events.next_post ..)
  cases c with
  | start g => exact ⟨_, rfl, State.startCondition_next s g⟩
  | stop g => exact ⟨_, rfl, State.stopCondition_next s g⟩
  | addressByte g =>
    refine ⟨_, rfl, ?_⟩
    split
    · exact Events.next_of_eq (State.completeAddress_events ..)
    · exact nothing
  | subAddressByte g =>
    refine ⟨_, rfl, ?_⟩
    split
    · split
      · exact Events.next_of_eq (State.completeSubAddress_events ..)
      · exact nothing
    · exact nothing
  | writeDataByte g =>
    refine ⟨_, rfl, ?_⟩
    split
    · split
      · exact State.completeData_next ..
      · exact Events.next_of_eq (State.completeRefused_events ..)
      · exact nothing
    · exact nothing
  | writeAckBit g sda =>
    refine ⟨_, rfl, ?_⟩
    split
    · split
      · exact Events.next_of_eq (State.takeWriteAck_events ..)
      · exact nothing
    · exact nothing
  | byteNeed g =>
    refine ⟨_, rfl, ?_⟩
    split
    · split
      · exact State.takeByteNeed_next ..
      · exact nothing
    · exact nothing
  | masterAckBit g sda =>
    refine ⟨_, rfl, ?_⟩
    split
    · split
      · exact Events.next_of_eq (State.takeMasterAck_events ..)
      · exact nothing
    · exact nothing
  | tick =>
    refine ⟨_, rfl, ?_⟩
    split
    · exact nothing
    · exact (State.tickSegment_next s .A).trans (State.tickSegment_next _ .B)
  | abandonTimerExpiry g =>
    refine ⟨_, rfl, ?_⟩
    split
    · split
      · exact State.abandon_next ..
      · exact nothing
    · exact nothing
  | stretchExpiry g =>
    refine ⟨_, rfl, ?_⟩
    split
    · split
      · exact Events.next_post ..
      · exact nothing
    · exact nothing
  | define => exact ⟨_, rfl, State.atCheck_next _ s.checkDefine_next⟩
  | enable => exact ⟨_, rfl, State.atCheck_next _ s.checkEnable_next⟩
  | disable => exact ⟨_, rfl, State.atCheck_next _ s.checkDisable_next⟩
  | release => exact ⟨_, rfl, State.atCheck_next _ s.checkRelease_next⟩
  | vtQuery => exact ⟨_, rfl, State.atCheck_next _ s.checkVtQuery_next⟩
  | regions => exact ⟨_, rfl, State.atCheck_next _ s.checkRegions_next⟩
  | imagePut => exact ⟨_, rfl, State.atCheck_next _ s.checkImagePut_next⟩
  | imageGet => exact ⟨_, rfl, State.atCheck_next _ s.checkImageGet_next⟩
  | flush => exact ⟨_, rfl, State.atCheck_next _ s.checkFlush_next⟩
  | queueConfig => exact ⟨_, rfl, State.atCheck_next _ s.checkQueueConfig_next⟩
  | segment => exact ⟨_, rfl, State.atCheck_next _ s.checkSegment_next⟩
  | clearCounters => exact ⟨_, rfl, State.atCheck_next _ s.checkClearCounters_next⟩
  | sleep => exact ⟨_, rfl, completes _ .ok (·.setHost .asleep)⟩
  | awake => exact ⟨_, rfl, completes _ .ok (·.setHost .awake)⟩
  | reinit => exact ⟨_, rfl, State.atCheck_next _ (Events.next_post ..)⟩
  | unknown =>
    refine ⟨_, rfl, ?_⟩
    split
    · exact nothing
    · exact completes _ .unknown id
  | dataPortRead => exact ⟨_, rfl, Events.next_of_eq (State.hostReadAccess_events ..)⟩
  | disregardedWrite => exact ⟨_, rfl, Events.next_of_eq (State.hostWriteDisregarded_events s)⟩
  | resetAssert => exact ⟨_, rfl, s.events.next_judge Events.reset⟩
  | resetRelease => exact ⟨_, rfl, nothing⟩
  | sclEdge g edge => exact ⟨_, rfl, Events.next_of_eq (State.clockEdge_events s g edge)⟩
  | commandIssue | abort | clearCollision | parameterWrite | pageWrite | pendingClear | intEnableWrite
  | wakeEnableWrite | emptyPopClear | pop | dataIndexWrite | answerSeqWrite | answerDataWrite | commit
  | clear => exact ⟨_, rfl, State.hostWrite_next s _ _⟩

/-- Settles O6: outputs that no command judges again keep their levels and their conditions. -/
theorem outputsFollowTheirConditions : Obligations.OutputsFollowTheirConditions := by
  intro s t judged stepped
  unfold step at stepped
  split at stepped
  · cases stepped
    exact judged
  · rename_i c rest _
    obtain ⟨u, taken, next⟩ := exec_events_next c { s with pending := rest }
    rw [taken] at stepped
    cases stepped
    exact outputsJudged_of_next judged next

end Sys2Proof.Machine
end

section
/-! PROOFS. The step itself (O1), and the events an asserted RESET keeps out (O5). -/

namespace Sys2Proof.Machine

open Sys2Proof.Safety

variable {s : State}

/-! ## One step (1.1, R169) -/

theorem step_of_pending_nil (empty : s.pending = []) : step s = .next (undriven s) := by
  unfold step
  rw [empty]
  rfl

/-- Settles O1, one clause for each form of the queue. -/
theorem stepTakesTheFrontCommand : Obligations.StepTakesTheFrontCommand :=
  fun _ => ⟨fun _ _ => step_of_pending, step_of_pending_nil⟩

/-! ## RESET asserted (R183) -/

/-- Asserting RESET again finds every block in its hardware-reset state already. -/
theorem exec_resetAssert_of_heldInReset (held : HeldInReset s) : exec .resetAssert s = .next s :=
  congrArg Host.Outcome.next (Eq.symm held)

/-- Settles O5. The reset state is needed for RESET_ASSERT alone: every other command finds RESET asserted and
at most moves the lines. -/
theorem assertedResetTakesNoEvent : Obligations.AssertedResetTakesNoEvent := by
  intro s c asserted held release
  by_cases assert : c = .resetAssert
  · subst assert
    exact ⟨s.linesA, s.linesB, exec_resetAssert_of_heldInReset held⟩
  · obtain ⟨_, taken, a, b, rfl⟩ := exec_of_inReset asserted assert release
    exact ⟨a, b, taken⟩

end Sys2Proof.Machine
end

section
/-! PROOFS. Right after reset every law holds (O3), and an asserted RESET is the reset state of every block (O4). -/

namespace Sys2Proof.Machine

open Sys2Proof.Safety

/-! ## The blocks at reset -/

/-- Every entry is FREE with generation 0 (R23). -/
theorem State.reset_entry (k : Fin 16) : State.reset.entry k = Entry.freeWith 0 := Vector.getElem_replicate ..

/-- Both segments are in their reset state (R71). -/
theorem State.reset_seg (g : Seg) : State.reset.seg g = Segment.reset := by
  cases g <;> rfl

/-- No segment holds a cell (R92). -/
theorem State.reset_reserved (g : Seg) : State.reset.pool.reserved g = 0 := by
  cases g <;> rfl

theorem Params.zero_getElem (i : Fin 16) : Params.zero[i] = 0 := Vector.getElem_replicate ..

/-! ## The laws at reset -/

/-- With no kind pending, INT and WAKE stand at the levels of a judgement (R161, R162). -/
theorem outputsJudged_reset : OutputsJudged State.reset := outputsJudged_of_judge (e := Events.reset) rfl

theorem numbersDistinct_reset : NumbersDistinct State.reset := ⟨List.nodup_nil, List.not_mem_nil⟩

theorem tableView_lawful_reset : State.reset.tableView.Lawful :=
  TableView.lawful_of_free (fun k => ⟨0, State.reset_entry k⟩)
    (fun g => congrArg (·.state.target) (State.reset_seg g)) rfl

theorem busView_lawful_reset : State.reset.busView.Lawful :=
  BusView.lawful_of_reset State.reset_seg State.reset_reserved rfl

/-- Both segments are OFF, where no place in a byte is ruled out. -/
theorem clocksInStep_reset : ClocksInStep State.reset := fun g => by
  rw [State.reset_seg]
  trivial

/-- Settles O3: the laws of the table, of the buses and of the cells are those of their views. -/
theorem resetIsLawful : Obligations.ResetIsLawful := by
  obtain ⟨table, bindings, waiting⟩ := State.reset.tableView_lawful_iff.1 tableView_lawful_reset
  obtain ⟨segments, quotas⟩ := busView_lawful_reset.toState
  obtain ⟨cells, counts, records⟩ := CellView.lawful_reset.toState
  exact ⟨outputsJudged_reset, cells, numbersDistinct_reset, Memory.wf_nil, table, bindings, waiting, quotas,
    segments, clocksInStep_reset, counts, records, fun asserted => by cases asserted⟩

/-! ## RESET (R183, R184) -/

/-- Settles O4. The next state is written out in the model, so each block is read off its reset value; entries,
segments, parameters and lines need their index. -/
theorem resetPutsEveryBlockInItsResetState : Obligations.ResetPutsEveryBlockInItsResetState := by
  intro s
  refine ⟨_, rfl, State.reset_entry, fun _ => rfl, fun g => ?segment, rfl, rfl, rfl, rfl, rfl, rfl, rfl,
    fun i => ⟨Params.zero_getElem i, Params.zero_getElem i⟩, rfl, rfl, rfl, rfl, fun g => ?lines, rfl, rfl⟩
  case segment => cases g <;> exact ⟨rfl, rfl, rfl, rfl, rfl, rfl, rfl⟩
  case lines => cases g <;> rfl

end Sys2Proof.Machine
end

section
/-! PROOFS. No command reaches the queue of waiting commands: it is the step that takes a command out (O2). -/

namespace Sys2Proof.Machine

section Operations

variable (s : State) (g : Seg) (t : Txn)

/-! ## Shared operations -/

@[simp] theorem State.onSeg_pending (f : Segment → Segment) : (s.onSeg g f).pending = s.pending :=
  State.setSeg_pending ..

@[simp] theorem State.onEntry_pending (k : Fin 16) (f : Entry → Entry) : (s.onEntry k f).pending = s.pending := rfl

@[simp] theorem State.lowerClock_pending : (s.lowerClock g).pending = s.pending := State.setLines_pending ..

@[simp] theorem State.raiseClock_pending (sda : Bool) : (s.raiseClock g sda).pending = s.pending :=
  State.setLines_pending ..

@[simp] theorem State.acceptByte_pending : (s.acceptByte g t).pending = s.pending := State.onSeg_pending ..

@[simp] theorem State.refuseByte_pending : (s.refuseByte g t).pending = s.pending := State.onSeg_pending ..

@[simp] theorem State.applyByte_pending (k : Fin 16) (b : Byte) : (s.applyByte k b).pending = s.pending := rfl

/-- An event that arises or not leaves the queue where its effect does. -/
theorem State.ite_pending {s u : State} (arises : Prop) [Decidable arises] (same : u.pending = s.pending) :
    (if arises then u else s).pending = s.pending := by
  split
  · exact same
  · rfl

/-! ## The end of a transaction (4.7) -/

@[simp] theorem State.commitRecords_pending (cause : CommitCause) (l : List OpenRecord) :
    (s.commitRecords g cause l).pending = s.pending := by
  obtain ⟨index, events, equal⟩ := State.commitRecords_eq s g cause l
  rw [equal]

@[simp] theorem State.applyHeld_pending (h : Held) : (s.applyHeld g h).pending = s.pending := by
  cases h with
  | disable | regions | imagePut => rfl
  | segment c => exact State.onSeg_pending ..

@[simp] theorem State.completeWaiting_pending : (s.completeWaiting g).pending = s.pending := by
  rcases State.completeWaiting_cases s g with ⟨h, -, equal⟩ | ⟨-, equal⟩
  · simp [equal]
  · rw [equal]

@[simp] theorem State.endTransaction_pending (cause : EndCause) (after : SegState) :
    (s.endTransaction g t cause after).pending = s.pending := by
  cases cause with
  | commit c => simp [State.endTransaction]
  | abandoned => simp [State.endTransaction]

@[simp] theorem State.abandon_pending (after : SegState) : (s.abandon g after).pending = s.pending := by
  cases txn : (s.seg g).txn with
  | none => rw [State.abandon_of_unbound after txn]
  | some t => simp [State.abandon_of_bound after txn]

/-! ## START and STOP -/

@[simp] theorem State.endByCondition_pending (cause : CommitCause) (after : SegState) :
    (s.endByCondition g t cause after).pending = s.pending := by
  unfold State.endByCondition State.framingBreak
  split <;> simp

@[simp] theorem State.recogniseStart_pending : (s.recogniseStart g).pending = s.pending := by
  unfold State.recogniseStart
  split <;> simp

@[simp] theorem State.recogniseStop_pending : (s.recogniseStop g).pending = s.pending := by
  unfold State.recogniseStop
  split <;> simp

theorem State.startCondition_pending : (s.startCondition g).pending = s.pending :=
  State.ite_pending _ (by split <;> simp)

theorem State.stopCondition_pending : (s.stopCondition g).pending = s.pending :=
  State.ite_pending _ (by split <;> simp)

/-! ## Bytes, edges and ticks -/

theorem State.completeAddress_pending : (s.completeAddress g).pending = s.pending := by
  unfold State.completeAddress
  dsimp only
  split <;> simp

theorem State.completeSubAddress_pending : (s.completeSubAddress g t).pending = s.pending := by
  simp [State.completeSubAddress]

theorem State.recordByte_pending (applied : Bool) : (s.recordByte g t applied).pending = s.pending := by
  unfold State.recordByte
  dsimp only
  split
  · cases applied <;> simp
  · cases applied <;> simp
  · simp

theorem State.completeData_pending : (s.completeData g t).pending = s.pending := by
  rcases State.completeData_cases s g t with equal | equal | ⟨applied, equal⟩
  · simp [equal]
  · simp [equal]
  · simp [equal, State.recordByte_pending]

theorem State.completeRefused_pending : (s.completeRefused g t).pending = s.pending := by
  simp [State.completeRefused]

theorem State.takeWriteAck_pending (sda : Bool) : (s.takeWriteAck g t sda).pending = s.pending := by
  simp [State.takeWriteAck]

theorem State.takeMasterAck_pending (sda : Bool) : (s.takeMasterAck g t sda).pending = s.pending := by
  simp [State.takeMasterAck]

theorem State.needByte_pending : (s.needByte g t).pending = s.pending := by
  rcases State.needByte_cases s g t with ⟨ahead, b, equal⟩ | ⟨b, equal⟩ | equal
  · simp [equal]
  · simp [equal]
  · simp [equal, State.createRequest]

theorem State.takeByteNeed_pending : (s.takeByteNeed g t).pending = s.pending := by
  simp [State.takeByteNeed, State.needByte_pending]

theorem State.expireStretch_pending (r : Request) : (s.expireStretch g t r).pending = s.pending := by
  simp [State.expireStretch]

theorem State.tickSegment_pending : (s.tickSegment g).pending = s.pending := by
  unfold State.tickSegment
  split
  · split
    · exact State.expireStretch_pending ..
    · exact State.onSeg_pending ..
  · split
    · rfl
    · split
      · exact State.abandon_pending ..
      · exact State.onSeg_pending ..

theorem State.clockEdge_pending (edge : ClockEdge) : (s.clockEdge g edge).pending = s.pending := by
  unfold State.clockEdge
  cases edge with
  | rise sda => dsimp only; split <;> split <;> simp
  | fall => dsimp only; split <;> split <;> simp

/-! ## Completion checks -/

theorem State.atCheck_pending {s : State} (code : Byte) {check : State → State}
    (same : (check s).pending = s.pending) : (s.atCheck code check).pending = s.pending :=
  State.ite_pending _ same

theorem State.checkDefine_pending : s.checkDefine.pending = s.pending := by
  unfold State.checkDefine
  split
  · rfl
  split
  · rfl
  split
  · rfl
  split <;> rfl

theorem State.checkEnable_pending : s.checkEnable.pending = s.pending := by
  unfold State.checkEnable
  split
  · rfl
  split
  · rfl
  split <;> rfl

theorem State.disableGracefully_pending (k : Fin 16) : (s.disableGracefully k).pending = s.pending := by
  unfold State.disableGracefully
  split <;> rfl

theorem State.disableByForce_pending (k : Fin 16) : (s.disableByForce k).pending = s.pending :=
  State.ite_pending _ (State.abandon_pending ..)

theorem State.checkDisable_pending : s.checkDisable.pending = s.pending := by
  unfold State.checkDisable
  split
  · rfl
  split
  · rfl
  split
  · rfl
  · exact s.disableGracefully_pending _
  · exact s.disableByForce_pending _

theorem State.checkRelease_pending : s.checkRelease.pending = s.pending := by
  unfold State.checkRelease
  split
  · rfl
  split <;> rfl

theorem State.checkVtQuery_pending : s.checkVtQuery.pending = s.pending := by
  unfold State.checkVtQuery
  split
  · rfl
  split
  · rfl
  split <;> rfl

theorem State.checkRegions_pending : s.checkRegions.pending = s.pending := by
  unfold State.checkRegions
  split
  · rfl
  split
  · rfl
  split
  · rfl
  split
  · rfl
  split <;> rfl

theorem State.checkImagePut_pending : s.checkImagePut.pending = s.pending := by
  unfold State.checkImagePut
  dsimp only
  split
  · rfl
  split
  · rfl
  split
  · rfl
  split
  · split <;> rfl
  · rfl

theorem State.checkImageGet_pending : s.checkImageGet.pending = s.pending := by
  unfold State.checkImageGet
  dsimp only
  split
  · rfl
  split
  · rfl
  split <;> rfl

theorem State.checkFlush_pending : s.checkFlush.pending = s.pending := by
  unfold State.checkFlush
  split <;> rfl

theorem State.checkQueueConfig_pending : s.checkQueueConfig.pending = s.pending := by
  unfold State.checkQueueConfig
  dsimp only
  split <;> rfl

theorem State.checkSegment_pending : s.checkSegment.pending = s.pending := by
  unfold State.checkSegment State.turnOff
  split
  · rfl
  split
  · split <;> simp
  · simp

theorem State.checkClearCounters_pending : s.checkClearCounters.pending = s.pending := by
  unfold State.checkClearCounters
  split
  · rfl
  · dsimp only
    split <;> split <;> rfl

theorem State.checkReinit_pending : s.checkReinit.pending = s.pending :=
  (State.abandon_pending ..).trans (State.abandon_pending ..)

/-! ## Host accesses -/

theorem State.abortCommand_pending : s.abortCommand.pending = s.pending := by
  unfold State.abortCommand
  split
  · rename_i h _
    cases h <;> rfl
  · rfl
  · rfl

theorem State.commitAnswer_pending : s.commitAnswer.pending = s.pending := by
  rcases State.commitAnswer_cases s with ⟨g, t, r, -, -, equal⟩ | equal
  · rw [equal]; exact State.onSeg_pending ..
  · rw [equal]

theorem State.writeAnswerControl_pending (value : Byte) : (s.writeAnswerControl value).pending = s.pending := by
  unfold State.writeAnswerControl
  split
  · exact s.commitAnswer_pending
  · split <;> rfl

theorem State.popHead_pending : s.popHead.pending = s.pending := by
  unfold State.popHead
  split <;> rfl

theorem State.writeUpper_pending (n : Nat) (value : Byte) : (s.writeUpper n value).pending = s.pending := by
  unfold State.writeUpper
  split
  · rfl
  · split <;> rfl
  · rfl
  · rfl

theorem State.takeWrite_pending (location : Location) (value : Byte) :
    (s.takeWrite location value).pending = s.pending := by
  unfold State.takeWrite
  split
  case h_12 => exact s.abortCommand_pending
  case h_15 => exact s.writeAnswerControl_pending value
  case h_16 => exact s.popHead_pending
  case h_17 => exact s.writeUpper_pending _ value
  all_goals rfl

theorem State.hostWrite_pending (location : Location) (value : Byte) :
    (s.hostWrite location value).pending = s.pending := by
  unfold State.hostWrite
  split
  · rfl
  · exact s.endRead.takeWrite_pending location value

theorem State.hostWriteDisregarded_pending : s.hostWriteDisregarded.pending = s.pending := by
  unfold State.hostWriteDisregarded
  split <;> rfl

theorem State.hostReadAccess_pending (location : Location) : (s.hostReadAccess location).pending = s.pending := by
  unfold State.hostReadAccess State.readSideEffect
  split
  · rfl
  · split <;> rfl

end Operations

/-! ## Every command -/

/-- Settles O2: every command answers by an operation above, or nothing happens. -/
theorem everyCommandLeavesTheQueue : Obligations.EveryCommandLeavesTheQueue := by
  intro c s
  cases c with
  | start g => exact ⟨_, rfl, s.startCondition_pending g⟩
  | stop g => exact ⟨_, rfl, s.stopCondition_pending g⟩
  | addressByte g => exact ⟨_, rfl, State.ite_pending _ (s.completeAddress_pending g)⟩
  | subAddressByte g =>
    refine ⟨_, rfl, State.ite_pending _ ?_⟩
    split
    · exact State.completeSubAddress_pending ..
    · rfl
  | writeDataByte g =>
    refine ⟨_, rfl, State.ite_pending _ ?_⟩
    split
    · exact State.completeData_pending ..
    · exact State.completeRefused_pending ..
    · rfl
  | writeAckBit g sda =>
    refine ⟨_, rfl, State.ite_pending _ ?_⟩
    split
    · exact State.takeWriteAck_pending ..
    · rfl
  | byteNeed g =>
    refine ⟨_, rfl, State.ite_pending _ ?_⟩
    split
    · exact State.takeByteNeed_pending ..
    · rfl
  | masterAckBit g sda =>
    refine ⟨_, rfl, State.ite_pending _ ?_⟩
    split
    · exact State.takeMasterAck_pending ..
    · rfl
  | tick =>
    refine ⟨_, rfl, ?_⟩
    split
    · rfl
    · exact (State.tickSegment_pending ..).trans (State.tickSegment_pending ..)
  | abandonTimerExpiry g =>
    refine ⟨_, rfl, ?_⟩
    split
    · exact State.ite_pending _ (State.abandon_pending ..)
    · rfl
  | stretchExpiry g =>
    refine ⟨_, rfl, ?_⟩
    split
    · exact State.ite_pending _ (State.expireStretch_pending ..)
    · rfl
  | define => exact ⟨_, rfl, State.atCheck_pending _ s.checkDefine_pending⟩
  | enable => exact ⟨_, rfl, State.atCheck_pending _ s.checkEnable_pending⟩
  | disable => exact ⟨_, rfl, State.atCheck_pending _ s.checkDisable_pending⟩
  | release => exact ⟨_, rfl, State.atCheck_pending _ s.checkRelease_pending⟩
  | vtQuery => exact ⟨_, rfl, State.atCheck_pending _ s.checkVtQuery_pending⟩
  | regions => exact ⟨_, rfl, State.atCheck_pending _ s.checkRegions_pending⟩
  | imagePut => exact ⟨_, rfl, State.atCheck_pending _ s.checkImagePut_pending⟩
  | imageGet => exact ⟨_, rfl, State.atCheck_pending _ s.checkImageGet_pending⟩
  | flush => exact ⟨_, rfl, State.atCheck_pending _ s.checkFlush_pending⟩
  | queueConfig => exact ⟨_, rfl, State.atCheck_pending _ s.checkQueueConfig_pending⟩
  | segment => exact ⟨_, rfl, State.atCheck_pending _ s.checkSegment_pending⟩
  | clearCounters => exact ⟨_, rfl, State.atCheck_pending _ s.checkClearCounters_pending⟩
  | sleep | awake => exact ⟨_, rfl, State.atCheck_pending _ rfl⟩
  | reinit => exact ⟨_, rfl, State.atCheck_pending _ s.checkReinit_pending⟩
  | unknown =>
    refine ⟨_, rfl, ?_⟩
    split
    · rfl
    · exact State.atCheck_pending _ rfl
  | dataPortRead => exact ⟨_, rfl, s.hostReadAccess_pending _⟩
  | disregardedWrite => exact ⟨_, rfl, s.hostWriteDisregarded_pending⟩
  | resetAssert | resetRelease => exact ⟨_, rfl, rfl⟩
  | sclEdge g edge => exact ⟨_, rfl, s.clockEdge_pending g edge⟩
  | commandIssue | abort | clearCollision | parameterWrite | pageWrite | pendingClear | intEnableWrite
  | wakeEnableWrite | emptyPopClear | pop | dataIndexWrite | answerSeqWrite | answerDataWrite | commit
  | clear => exact ⟨_, rfl, s.hostWrite_pending _ _⟩

end Sys2Proof.Machine
end
